-- ==== Sys2Proof/Word.lean ====
section
/-!
DEFINITION. The word types of SCR1 (spec/00_scope.md R8, R10; spec/20_memory.md R222).
Bit 0 is the least significant bit of every word.
-/

namespace Sys2Proof

/-- 8 bits, the unit of data memory (R222). -/
abbrev Byte := BitVec 8

/-- 16 bits: a halfword, and the size of a compressed instruction (R222, R260). -/
abbrev Half := BitVec 16

/-- 32 bits: registers, addresses, CSRs, 32-bit instructions (R20, R24, R28). -/
abbrev Word := BitVec 32

/-- 64 bits: mcycle, minstret, mtime, mtimecmp (R47, R48, R101, R102). -/
abbrev DWord := BitVec 64

/-- A 5-bit register number, naming x0..x31 (R261). -/
abbrev Reg := BitVec 5

/-- A 3-bit primed register field of a compressed encoding, naming x8..x15 (R272). -/
abbrev CReg := BitVec 3

/-- The 12-bit address of a control and status register (R28). -/
abbrev CsrAddr := BitVec 12

end Sys2Proof
end

