-- ==== Sys2Proof/Config.lean ====
section
/-!
DEFINITION. The configuration record of the core (spec/00_scope.md R6, R7) and the free values of the model.
A State carries one Config, which no step changes. The parameters that change timing or power only
(SCR1_IFU_QUEUE_BYPASS, SCR1_EXU_STAGE_BYPASS, SCR1_FAST_MUL, SCR1_CLKCTRL_EN and the four AHB bridge
parameters: R6, R591) have no field. What is computed from the record stands in Machine/Platform.lean.
A FREE VALUE is a constant without a body, applied to State.freeIdx: nothing in Lean can evaluate it
(notes/assumptions/7.md).
-/

namespace Sys2Proof

/-- What the platform puts on the external buses at the addresses base .. base + size - 1 (R239, R240). -/
structure Region where
  base : Nat
  size : Nat
  load : Bool
  store : Bool
  fetch : Bool
  /-- the access sizes in bytes that the data bus completes here -/
  widths : List Nat
  /-- a device, whose behaviour the spec does not give (R239) -/
  device : Bool
  deriving DecidableEq, Repr

/-- The five support bits of one breakpoint, BRKM_SUP (R141). -/
structure BpSupport where
  amask : Bool
  a : Bool
  exec : Bool
  store : Bool
  load : Bool
  deriving DecidableEq, Repr

/-- The two readings of "this register is not implemented in SCR1" for BPLODATA and BPHIDATA (R144, U17). -/
inductive BrkmDataCsrs where
  | absent
  | readZero
  deriving DecidableEq, Repr

/-- The configuration record (R6, R7). -/
structure Config where
  /-- SCR1_RVE_EXT -/
  rve : Bool
  /-- SCR1_RVM_EXT -/
  rvm : Bool
  /-- SCR1_RVC_EXT -/
  rvc : Bool
  /-- SCR1_DBGC_EN -/
  dbgcEn : Bool
  /-- SCR1_BRKM_EN -/
  brkmEn : Bool
  /-- SCR1_IPIC_EN -/
  ipicEn : Bool
  /-- SCR1_IPIC_SYNC_EN -/
  ipicSyncEn : Bool
  /-- SCR1_VECT_IRQ_EN -/
  vectIrqEn : Bool
  /-- SCR1_CSR_MCOUNTEN_EN -/
  csrMcountenEn : Bool
  /-- SCR1_TCM_EN -/
  tcmEn : Bool
  /-- SCR1_ARCH_RST_VECTOR -/
  rstVector : Word
  /-- SCR1_ARCH_CSR_MTVEC_BASE -/
  mtvecBase : Word
  /-- SCR1_TCM_ADDR_MASK -/
  tcmMask : Word
  /-- SCR1_TCM_ADDR_PATTERN -/
  tcmPattern : Word
  /-- SCR1_TIMER_ADDR_MASK -/
  timerMask : Word
  /-- SCR1_TIMER_ADDR_PATTERN -/
  timerPattern : Word
  /-- MHARTID_FUSE (R34) -/
  hartidFuse : Word
  /-- TCM_SIZE in bytes (R237) -/
  tcmSize : Nat
  /-- BRKM_BP_NUM (R139) -/
  bpNum : Nat
  /-- BRKM_SUP, one entry for each breakpoint (R141) -/
  brkmSup : List BpSupport
  /-- CNT_CSRS_PRESENT (R47, R49) -/
  cntCsrsPresent : Bool
  /-- MISA_RVX (R36) -/
  misaRvx : Bool
  /-- UNIFIED_EXTERNAL_MEMORY (R236) -/
  unifiedExternalMemory : Bool
  /-- DataAccessible and FetchAccessible, as the regions of the platform (R240) -/
  regions : List Region
  /-- IPIC_LEVEL_IP_LIVE (R506) -/
  ipicLevelIpLive : Bool
  /-- IPIC_SOI_CLEARS_IP (R120) -/
  ipicSoiClearsIp : Bool
  /-- INTERRUPT_LATENCY_ZERO (R510) -/
  interruptLatencyZero : Bool
  /-- BRKM_DATA_CSRS (R144, R145) -/
  brkmDataCsrs : BrkmDataCsrs
  /-- does DBG_SCRATCH exist when SCR1_DBGC_EN is off (R51, U11) -/
  dbgScratchWithoutDbgc : Bool
  deriving DecidableEq, Repr

/-- The kinds of data access (R240). -/
inductive AccessKind where
  | load
  | store
  deriving DecidableEq, Repr

/-- The three memories (R236, R237). -/
inductive Bank where
  | tcm
  | ext
  | extI
  deriving DecidableEq, Repr

/-! ## Free values

Each is indexed by State.freeIdx, which every step and every host move advances (notes/assumptions/7.md). -/

/-- What a read of the byte at an address gives where neither the loader nor a store has written: it "holds no value"
(R237, R239, D5; notes/assumptions/4.md). -/
opaque Config.freeByte : Nat → Bank → Nat → Byte

/-- The trap value of EBREAK, C.EBREAK and every interrupt: "any value" (R523). -/
opaque Config.freeMtval : Nat → Word

/-- The trap target under MTVEC.MODE 2 or 3 (R40, U8). -/
opaque Config.freeTrapTarget : Nat → Word

/-- Whether a CSR access to a running counter sees one count more (R48, U10). -/
opaque Config.freeCountBit : Nat → Bool

/-- IPIC pending bit after a write that may look like an edge (R506, U28). -/
opaque Config.freePendingBit : Nat → Bool

/-- An enable bit of the given position, written 1 where its support bit is 0 (R141, U15). -/
opaque Config.freeEnableBit : Nat → Nat → Bool

/-- What a read of the CSR at the given address shows for a breakpoint that does not exist (R140, U14). -/
opaque Config.freeBreakpointRead : Nat → CsrAddr → Word

/-- What BRKMCTRL.INIT reads back (R149, U18). -/
opaque Config.freeInitBit : Nat → Bool

/-- Whether an armed or unarmed skip mechanism skips this instruction breakpoint (R149, U19). -/
opaque Config.freeSkip : Nat → Bool → Bool

/-- Whether a skipped breakpoint still shows its match (U19). -/
opaque Config.freeSkipMatched : Nat → Bool

/-- Whether the extended address mask of the given breakpoint hits the later bytes of a fetch (R546, U31). -/
opaque Config.freeExecMaskHit : Nat → Nat → Bool

/-- Whether, without the C extension, the trap value of the zero halfword is the whole word fetched, as R449 says, and not
the halfword zero-extended, as R523 and D41 say. -/
opaque Config.freeZeroHalfWord : Nat → Bool

/-- The timer divider's phase after a write that may disturb it (R535, U20). -/
opaque Config.freePhase : Nat → Nat

/-- The advance of mtime while MTIMECLKSET.COEF is 0 (R535, U29). -/
opaque Config.freeMtimeAdvance : Nat → Nat

/-- How many cycles of clk pass in a step whose host schedule says nothing (R47). -/
opaque Config.freeClkTicks : Nat → Nat

/-- How many cycles of rtc_clk pass in a step whose host schedule says nothing (R535). -/
opaque Config.freeRtcTicks : Nat → Nat

/-- DAP_OPSTATUS after a DAP command, whose conditions the manual does not describe (R189). -/
opaque Config.freeDapStatus : Nat → BitVec 4

/-- The Ready bit of CORE_DBG_STS after a DAP command (R202, notes/assumptions/56.md). -/
opaque Config.freeReady : Nat → Bool

end Sys2Proof
end

