-- ==== Sys2Proof/Syntax.lean ====
section
/-!
DEFINITION. The instructions of SCR1: one constructor per row of spec/opcode_table.json (R266, R273, R288).
An operand is held as the value the encoding gives it, at the width its bits have:
an immediate with implicit low zero bits (B, J, the compressed offsets) is held WITH those zeros, and
WellFormed.lean says that they are zero. The U immediate is the 20-bit field inst[31:12] (R262); C.LUI's is the
6-bit field nzimm[17:12] (R273).
-/

namespace Sys2Proof

/-- The 85 rows of the opcode table (R266, R273, R449). -/
inductive Instr where
  | lui (rd : Reg) (imm : BitVec 20)
  | auipc (rd : Reg) (imm : BitVec 20)
  | jal (rd : Reg) (imm : BitVec 21)
  | jalr (rd rs1 : Reg) (imm : BitVec 12)
  | beq (rs1 rs2 : Reg) (imm : BitVec 13)
  | bne (rs1 rs2 : Reg) (imm : BitVec 13)
  | blt (rs1 rs2 : Reg) (imm : BitVec 13)
  | bge (rs1 rs2 : Reg) (imm : BitVec 13)
  | bltu (rs1 rs2 : Reg) (imm : BitVec 13)
  | bgeu (rs1 rs2 : Reg) (imm : BitVec 13)
  | lb (rd rs1 : Reg) (imm : BitVec 12)
  | lh (rd rs1 : Reg) (imm : BitVec 12)
  | lw (rd rs1 : Reg) (imm : BitVec 12)
  | lbu (rd rs1 : Reg) (imm : BitVec 12)
  | lhu (rd rs1 : Reg) (imm : BitVec 12)
  | sb (rs1 rs2 : Reg) (imm : BitVec 12)
  | sh (rs1 rs2 : Reg) (imm : BitVec 12)
  | sw (rs1 rs2 : Reg) (imm : BitVec 12)
  | addi (rd rs1 : Reg) (imm : BitVec 12)
  | slti (rd rs1 : Reg) (imm : BitVec 12)
  | sltiu (rd rs1 : Reg) (imm : BitVec 12)
  | xori (rd rs1 : Reg) (imm : BitVec 12)
  | ori (rd rs1 : Reg) (imm : BitVec 12)
  | andi (rd rs1 : Reg) (imm : BitVec 12)
  | slli (rd rs1 : Reg) (shamt : BitVec 5)
  | srli (rd rs1 : Reg) (shamt : BitVec 5)
  | srai (rd rs1 : Reg) (shamt : BitVec 5)
  | add (rd rs1 rs2 : Reg)
  | sub (rd rs1 rs2 : Reg)
  | sll (rd rs1 rs2 : Reg)
  | slt (rd rs1 rs2 : Reg)
  | sltu (rd rs1 rs2 : Reg)
  | xor (rd rs1 rs2 : Reg)
  | srl (rd rs1 rs2 : Reg)
  | sra (rd rs1 rs2 : Reg)
  | or (rd rs1 rs2 : Reg)
  | and (rd rs1 rs2 : Reg)
  | fence (pred succ : BitVec 4)
  | fenceI
  | ecall
  | ebreak
  | mret
  | wfi
  | csrrw (rd : Reg) (csr : CsrAddr) (rs1 : Reg)
  | csrrs (rd : Reg) (csr : CsrAddr) (rs1 : Reg)
  | csrrc (rd : Reg) (csr : CsrAddr) (rs1 : Reg)
  | csrrwi (rd : Reg) (csr : CsrAddr) (zimm : BitVec 5)
  | csrrsi (rd : Reg) (csr : CsrAddr) (zimm : BitVec 5)
  | csrrci (rd : Reg) (csr : CsrAddr) (zimm : BitVec 5)
  | mul (rd rs1 rs2 : Reg)
  | mulh (rd rs1 rs2 : Reg)
  | mulhsu (rd rs1 rs2 : Reg)
  | mulhu (rd rs1 rs2 : Reg)
  | div (rd rs1 rs2 : Reg)
  | divu (rd rs1 rs2 : Reg)
  | rem (rd rs1 rs2 : Reg)
  | remu (rd rs1 rs2 : Reg)
  | cIllegal
  | cAddi4spn (rd : CReg) (imm : BitVec 10)
  | cLw (rd rs1 : CReg) (imm : BitVec 7)
  | cSw (rs1 rs2 : CReg) (imm : BitVec 7)
  | cNop
  | cAddi (rd : Reg) (imm : BitVec 6)
  | cJal (imm : BitVec 12)
  | cLi (rd : Reg) (imm : BitVec 6)
  | cAddi16sp (imm : BitVec 10)
  | cLui (rd : Reg) (imm : BitVec 6)
  | cSrli (rd : CReg) (shamt : BitVec 5)
  | cSrai (rd : CReg) (shamt : BitVec 5)
  | cAndi (rd : CReg) (imm : BitVec 6)
  | cSub (rd rs2 : CReg)
  | cXor (rd rs2 : CReg)
  | cOr (rd rs2 : CReg)
  | cAnd (rd rs2 : CReg)
  | cJ (imm : BitVec 12)
  | cBeqz (rs1 : CReg) (imm : BitVec 9)
  | cBnez (rs1 : CReg) (imm : BitVec 9)
  | cSlli (rd : Reg) (shamt : BitVec 5)
  | cLwsp (rd : Reg) (imm : BitVec 8)
  | cJr (rs1 : Reg)
  | cMv (rd rs2 : Reg)
  | cEbreak
  | cJalr (rs1 : Reg)
  | cAdd (rd rs2 : Reg)
  | cSwsp (rs2 : Reg) (imm : BitVec 8)
  deriving DecidableEq, Repr

/-- The two instruction lengths (R260). -/
inductive Parcel where
  /-- a 16-bit instruction -/
  | c16 (h : Half)
  /-- a 32-bit instruction -/
  | c32 (w : Word)
  deriving DecidableEq, Repr

end Sys2Proof
end

