-- ==== Sys2Proof/WellFormed.lean ====
section
/-!
DEFINITION. Which terms of Instr the encodings can express: implicit zero bits are zero (R262, R273), and the
"nz" and "rd not in" conditions of the compressed rows hold (R273, the constraints of spec/opcode_table.json).
-/

namespace Sys2Proof

/-- The implicit low zero bits of a branch, jump or compressed offset are zero (R262, R273), and the
constraints of the compressed rows hold (R273, R288). Every other operand may take any value (R268). -/
def Instr.wf : Instr → Bool
  | .jal _ imm => imm.getLsbD 0 == false
  | .beq _ _ imm => imm.getLsbD 0 == false
  | .bne _ _ imm => imm.getLsbD 0 == false
  | .blt _ _ imm => imm.getLsbD 0 == false
  | .bge _ _ imm => imm.getLsbD 0 == false
  | .bltu _ _ imm => imm.getLsbD 0 == false
  | .bgeu _ _ imm => imm.getLsbD 0 == false
  | .cAddi4spn _ imm => imm.extractLsb' 0 2 == 0#2 && imm != 0#10
  | .cLw _ _ imm => imm.extractLsb' 0 2 == 0#2
  | .cSw _ _ imm => imm.extractLsb' 0 2 == 0#2
  | .cAddi rd _ => rd != 0#5
  | .cJal imm => imm.getLsbD 0 == false
  | .cAddi16sp imm => imm.extractLsb' 0 4 == 0#4 && imm != 0#10
  | .cLui rd imm => rd != 2#5 && imm != 0#6
  | .cJ imm => imm.getLsbD 0 == false
  | .cBeqz _ imm => imm.getLsbD 0 == false
  | .cBnez _ imm => imm.getLsbD 0 == false
  | .cLwsp rd imm => rd != 0#5 && imm.extractLsb' 0 2 == 0#2
  | .cJr rs1 => rs1 != 0#5
  | .cMv _ rs2 => rs2 != 0#5
  | .cJalr rs1 => rs1 != 0#5
  | .cAdd _ rs2 => rs2 != 0#5
  | .cSwsp _ imm => imm.extractLsb' 0 2 == 0#2
  | .lui _ _ | .auipc _ _ | .jalr _ _ _ | .lb _ _ _ | .lh _ _ _ | .lw _ _ _ | .lbu _ _ _ | .lhu _ _ _
  | .sb _ _ _ | .sh _ _ _ | .sw _ _ _ | .addi _ _ _ | .slti _ _ _ | .sltiu _ _ _ | .xori _ _ _ | .ori _ _ _
  | .andi _ _ _ | .slli _ _ _ | .srli _ _ _ | .srai _ _ _ | .add _ _ _ | .sub _ _ _ | .sll _ _ _ | .slt _ _ _
  | .sltu _ _ _ | .xor _ _ _ | .srl _ _ _ | .sra _ _ _ | .or _ _ _ | .and _ _ _ | .fence _ _ | .fenceI | .ecall
  | .ebreak | .mret | .wfi | .csrrw _ _ _ | .csrrs _ _ _ | .csrrc _ _ _ | .csrrwi _ _ _ | .csrrsi _ _ _
  | .csrrci _ _ _ | .mul _ _ _ | .mulh _ _ _ | .mulhsu _ _ _ | .mulhu _ _ _ | .div _ _ _ | .divu _ _ _
  | .rem _ _ _ | .remu _ _ _ | .cIllegal | .cNop | .cLi _ _ | .cSrli _ _ | .cSrai _ _ | .cAndi _ _ | .cSub _ _
  | .cXor _ _ | .cOr _ _ | .cAnd _ _ | .cSlli _ _ | .cEbreak => true

end Sys2Proof
end

