-- ==== Sys2Proof/Decode.lean ====
section
/-!
DEFINITION. Decoding and encoding (spec/30_encoding.md). Decoding is total on any bytes and rejects by name; it
is written from R260 to R274. The encoder after it is written from the same tables and shares no table with it:
the decoder takes fields out, the encoder puts them in place.
-/

namespace Sys2Proof

/-- The bits of `v` placed at bit `lo` of a wider vector, zeros elsewhere: the `v << lo` of the spec's layouts. -/
def put {n w : Nat} (lo : Nat) (v : BitVec n) : BitVec w := v.setWidth w <<< lo

/-! ## Fields of the 32-bit formats (R261, R262) -/

/-- bits 6..0 -/
def opcodeOf (w : Word) : BitVec 7 := w.extractLsb' 0 7

/-- bits 11..7 -/
def rdOf (w : Word) : Reg := w.extractLsb' 7 5

/-- bits 14..12 -/
def funct3Of (w : Word) : BitVec 3 := w.extractLsb' 12 3

/-- bits 19..15 -/
def rs1Of (w : Word) : Reg := w.extractLsb' 15 5

/-- bits 24..20 -/
def rs2Of (w : Word) : Reg := w.extractLsb' 20 5

/-- bits 31..25 -/
def funct7Of (w : Word) : BitVec 7 := w.extractLsb' 25 7

/-- The I immediate: inst[31:20] (R262). -/
def immIOf (w : Word) : BitVec 12 := w.extractLsb' 20 12

/-- The S immediate: inst[31:25] ++ inst[11:7] (R262). -/
def immSOf (w : Word) : BitVec 12 :=
  put 5 (w.extractLsb' 25 7) ||| put 0 (w.extractLsb' 7 5)

/-- The B immediate: inst[31] ++ inst[7] ++ inst[30:25] ++ inst[11:8] ++ 0 (R262). -/
def immBOf (w : Word) : BitVec 13 :=
  put 12 (w.extractLsb' 31 1) ||| put 11 (w.extractLsb' 7 1) ||| put 5 (w.extractLsb' 25 6)
    ||| put 1 (w.extractLsb' 8 4)

/-- The U immediate's field: inst[31:12] (R262). -/
def immUOf (w : Word) : BitVec 20 := w.extractLsb' 12 20

/-- The J immediate: inst[31] ++ inst[19:12] ++ inst[20] ++ inst[30:21] ++ 0 (R262). -/
def immJOf (w : Word) : BitVec 21 :=
  put 20 (w.extractLsb' 31 1) ||| put 12 (w.extractLsb' 12 8) ||| put 11 (w.extractLsb' 20 1)
    ||| put 1 (w.extractLsb' 21 10)

/-! ## Fields of the 16-bit formats (R271 to R273) -/

/-- bits 1..0 -/
def quadrantOf (h : Half) : BitVec 2 := h.extractLsb' 0 2

/-- bits 15..13 -/
def cFunct3Of (h : Half) : BitVec 3 := h.extractLsb' 13 3

/-- The full register field rd/rs1, bits 11..7. -/
def cRdOf (h : Half) : Reg := h.extractLsb' 7 5

/-- The full register field rs2, bits 6..2. -/
def cRs2Of (h : Half) : Reg := h.extractLsb' 2 5

/-- The primed field of bits 4..2 (R272). -/
def cLowOf (h : Half) : CReg := h.extractLsb' 2 3

/-- The primed field of bits 9..7 (R272). -/
def cHighOf (h : Half) : CReg := h.extractLsb' 7 3

/-- bit 12 -/
def cBit12Of (h : Half) : BitVec 1 := h.extractLsb' 12 1

/-- The CI immediate: inst[12] ++ inst[6:2] (R273). -/
def immCIOf (h : Half) : BitVec 6 :=
  put 5 (h.extractLsb' 12 1) ||| put 0 (h.extractLsb' 2 5)

/-- C.ADDI4SPN: inst[10:7] ++ inst[12:11] ++ inst[5] ++ inst[6] ++ 00 (R273). -/
def immCiwOf (h : Half) : BitVec 10 :=
  put 6 (h.extractLsb' 7 4) ||| put 4 (h.extractLsb' 11 2) ||| put 3 (h.extractLsb' 5 1)
    ||| put 2 (h.extractLsb' 6 1)

/-- C.LW and C.SW: inst[5] ++ inst[12:10] ++ inst[6] ++ 00 (R273). -/
def immClOf (h : Half) : BitVec 7 :=
  put 6 (h.extractLsb' 5 1) ||| put 3 (h.extractLsb' 10 3) ||| put 2 (h.extractLsb' 6 1)

/-- C.J and C.JAL: inst[12] ++ inst[8] ++ inst[10:9] ++ inst[6] ++ inst[7] ++ inst[2] ++ inst[11] ++ inst[5:3]
++ 0 (R273). -/
def immCjOf (h : Half) : BitVec 12 :=
  put 11 (h.extractLsb' 12 1) ||| put 10 (h.extractLsb' 8 1) ||| put 8 (h.extractLsb' 9 2)
    ||| put 7 (h.extractLsb' 6 1) ||| put 6 (h.extractLsb' 7 1) ||| put 5 (h.extractLsb' 2 1)
    ||| put 4 (h.extractLsb' 11 1) ||| put 1 (h.extractLsb' 3 3)

/-- C.BEQZ and C.BNEZ: inst[12] ++ inst[6:5] ++ inst[2] ++ inst[11:10] ++ inst[4:3] ++ 0 (R273). -/
def immCbOf (h : Half) : BitVec 9 :=
  put 8 (h.extractLsb' 12 1) ||| put 6 (h.extractLsb' 5 2) ||| put 5 (h.extractLsb' 2 1)
    ||| put 3 (h.extractLsb' 10 2) ||| put 1 (h.extractLsb' 3 2)

/-- C.ADDI16SP: inst[12] ++ inst[4:3] ++ inst[5] ++ inst[2] ++ inst[6] ++ 0000 (R273). -/
def immC16spOf (h : Half) : BitVec 10 :=
  put 9 (h.extractLsb' 12 1) ||| put 7 (h.extractLsb' 3 2) ||| put 6 (h.extractLsb' 5 1)
    ||| put 5 (h.extractLsb' 2 1) ||| put 4 (h.extractLsb' 6 1)

/-- C.LWSP: inst[3:2] ++ inst[12] ++ inst[6:4] ++ 00 (R273). -/
def immClwspOf (h : Half) : BitVec 8 :=
  put 6 (h.extractLsb' 2 2) ||| put 5 (h.extractLsb' 12 1) ||| put 2 (h.extractLsb' 4 3)

/-- C.SWSP: inst[8:7] ++ inst[12:9] ++ 00 (R273). -/
def immCswspOf (h : Half) : BitVec 8 :=
  put 6 (h.extractLsb' 7 2) ||| put 2 (h.extractLsb' 9 4)

/-! ## Decoding -/

/-- Why bits are no instruction of this core. All but the first and the last end in IllegalInstruction
(R267, R281, R282). -/
inductive DecodeError where
  /-- fewer bytes than the instruction's length (a use of `decode` on a short list; a fetch never gives one) -/
  | truncated
  /-- a 32-bit opcode with no row (R267) -/
  | unusedOpcode
  /-- an unused funct3 or funct7 under a used opcode (R263, R267) -/
  | unusedFunction
  /-- a SYSTEM word with funct3 000 that is none of ECALL, EBREAK, MRET, WFI (R264) -/
  | unusedSystem
  /-- a FENCE or FENCE.I word with a non-zero fixed field (R265, U25) -/
  | fenceFields
  /-- a compressed code point without a row (R281) -/
  | unusedCompressed
  /-- a compressed encoding annotated RES (R282 point 1) -/
  | reservedCompressed
  /-- a compressed shift annotated NSE (R282 point 2) -/
  | nonStandardShift
  /-- C.NOP's code point with a non-zero immediate: not defined by the manual (R282 point 5, U26) -/
  | undefinedCNop
  deriving DecidableEq, Repr

/-- Opcode 0000011 (R266). -/
def decodeLoad (w : Word) : Except DecodeError Instr :=
  if funct3Of w = 0#3 then .ok (.lb (rdOf w) (rs1Of w) (immIOf w))
  else if funct3Of w = 1#3 then .ok (.lh (rdOf w) (rs1Of w) (immIOf w))
  else if funct3Of w = 2#3 then .ok (.lw (rdOf w) (rs1Of w) (immIOf w))
  else if funct3Of w = 4#3 then .ok (.lbu (rdOf w) (rs1Of w) (immIOf w))
  else if funct3Of w = 5#3 then .ok (.lhu (rdOf w) (rs1Of w) (immIOf w))
  else .error .unusedFunction

/-- Opcode 0100011 (R266). -/
def decodeStore (w : Word) : Except DecodeError Instr :=
  if funct3Of w = 0#3 then .ok (.sb (rs1Of w) (rs2Of w) (immSOf w))
  else if funct3Of w = 1#3 then .ok (.sh (rs1Of w) (rs2Of w) (immSOf w))
  else if funct3Of w = 2#3 then .ok (.sw (rs1Of w) (rs2Of w) (immSOf w))
  else .error .unusedFunction

/-- Opcode 1100011 (R266). -/
def decodeBranch (w : Word) : Except DecodeError Instr :=
  if funct3Of w = 0#3 then .ok (.beq (rs1Of w) (rs2Of w) (immBOf w))
  else if funct3Of w = 1#3 then .ok (.bne (rs1Of w) (rs2Of w) (immBOf w))
  else if funct3Of w = 4#3 then .ok (.blt (rs1Of w) (rs2Of w) (immBOf w))
  else if funct3Of w = 5#3 then .ok (.bge (rs1Of w) (rs2Of w) (immBOf w))
  else if funct3Of w = 6#3 then .ok (.bltu (rs1Of w) (rs2Of w) (immBOf w))
  else if funct3Of w = 7#3 then .ok (.bgeu (rs1Of w) (rs2Of w) (immBOf w))
  else .error .unusedFunction

/-- Opcode 0010011 (R263, R266). -/
def decodeOpImm (w : Word) : Except DecodeError Instr :=
  if funct3Of w = 0#3 then .ok (.addi (rdOf w) (rs1Of w) (immIOf w))
  else if funct3Of w = 2#3 then .ok (.slti (rdOf w) (rs1Of w) (immIOf w))
  else if funct3Of w = 3#3 then .ok (.sltiu (rdOf w) (rs1Of w) (immIOf w))
  else if funct3Of w = 4#3 then .ok (.xori (rdOf w) (rs1Of w) (immIOf w))
  else if funct3Of w = 6#3 then .ok (.ori (rdOf w) (rs1Of w) (immIOf w))
  else if funct3Of w = 7#3 then .ok (.andi (rdOf w) (rs1Of w) (immIOf w))
  else if funct3Of w = 1#3 then
    if funct7Of w = 0#7 then .ok (.slli (rdOf w) (rs1Of w) (rs2Of w)) else .error .unusedFunction
  else if funct7Of w = 0#7 then .ok (.srli (rdOf w) (rs1Of w) (rs2Of w))
  else if funct7Of w = 0b0100000#7 then .ok (.srai (rdOf w) (rs1Of w) (rs2Of w))
  else .error .unusedFunction

/-- Opcode 0110011, funct7 0000000 (R266). -/
def decodeOpBase (w : Word) : Except DecodeError Instr :=
  if funct3Of w = 0#3 then .ok (.add (rdOf w) (rs1Of w) (rs2Of w))
  else if funct3Of w = 1#3 then .ok (.sll (rdOf w) (rs1Of w) (rs2Of w))
  else if funct3Of w = 2#3 then .ok (.slt (rdOf w) (rs1Of w) (rs2Of w))
  else if funct3Of w = 3#3 then .ok (.sltu (rdOf w) (rs1Of w) (rs2Of w))
  else if funct3Of w = 4#3 then .ok (.xor (rdOf w) (rs1Of w) (rs2Of w))
  else if funct3Of w = 5#3 then .ok (.srl (rdOf w) (rs1Of w) (rs2Of w))
  else if funct3Of w = 6#3 then .ok (.or (rdOf w) (rs1Of w) (rs2Of w))
  else .ok (.and (rdOf w) (rs1Of w) (rs2Of w))

/-- Opcode 0110011, funct7 0000001 (R266, R400). -/
def decodeOpMul (w : Word) : Except DecodeError Instr :=
  if funct3Of w = 0#3 then .ok (.mul (rdOf w) (rs1Of w) (rs2Of w))
  else if funct3Of w = 1#3 then .ok (.mulh (rdOf w) (rs1Of w) (rs2Of w))
  else if funct3Of w = 2#3 then .ok (.mulhsu (rdOf w) (rs1Of w) (rs2Of w))
  else if funct3Of w = 3#3 then .ok (.mulhu (rdOf w) (rs1Of w) (rs2Of w))
  else if funct3Of w = 4#3 then .ok (.div (rdOf w) (rs1Of w) (rs2Of w))
  else if funct3Of w = 5#3 then .ok (.divu (rdOf w) (rs1Of w) (rs2Of w))
  else if funct3Of w = 6#3 then .ok (.rem (rdOf w) (rs1Of w) (rs2Of w))
  else .ok (.remu (rdOf w) (rs1Of w) (rs2Of w))

/-- Opcode 0110011 (R266). -/
def decodeOp (w : Word) : Except DecodeError Instr :=
  if funct7Of w = 0#7 then decodeOpBase w
  else if funct7Of w = 1#7 then decodeOpMul w
  else if funct7Of w = 0b0100000#7 then
    if funct3Of w = 0#3 then .ok (.sub (rdOf w) (rs1Of w) (rs2Of w))
    else if funct3Of w = 5#3 then .ok (.sra (rdOf w) (rs1Of w) (rs2Of w))
    else .error .unusedFunction
  else .error .unusedFunction

/-- Opcode 0001111: the strict patterns (R265). -/
def decodeFence (w : Word) : Except DecodeError Instr :=
  if funct3Of w = 0#3 then
    if w.extractLsb' 28 4 = 0#4 ∧ rs1Of w = 0#5 ∧ rdOf w = 0#5 then
      .ok (.fence (w.extractLsb' 24 4) (w.extractLsb' 20 4))
    else .error .fenceFields
  else if funct3Of w = 1#3 then
    if immIOf w = 0#12 ∧ rs1Of w = 0#5 ∧ rdOf w = 0#5 then .ok .fenceI else .error .fenceFields
  else .error .unusedFunction

/-- Opcode 1110011 (R264). -/
def decodeSystem (w : Word) : Except DecodeError Instr :=
  if funct3Of w = 0#3 then
    if rs1Of w = 0#5 ∧ rdOf w = 0#5 then
      if immIOf w = 0x000#12 then .ok .ecall
      else if immIOf w = 0x001#12 then .ok .ebreak
      else if immIOf w = 0x302#12 then .ok .mret
      else if immIOf w = 0x105#12 then .ok .wfi
      else .error .unusedSystem
    else .error .unusedSystem
  else if funct3Of w = 1#3 then .ok (.csrrw (rdOf w) (immIOf w) (rs1Of w))
  else if funct3Of w = 2#3 then .ok (.csrrs (rdOf w) (immIOf w) (rs1Of w))
  else if funct3Of w = 3#3 then .ok (.csrrc (rdOf w) (immIOf w) (rs1Of w))
  else if funct3Of w = 5#3 then .ok (.csrrwi (rdOf w) (immIOf w) (rs1Of w))
  else if funct3Of w = 6#3 then .ok (.csrrsi (rdOf w) (immIOf w) (rs1Of w))
  else if funct3Of w = 7#3 then .ok (.csrrci (rdOf w) (immIOf w) (rs1Of w))
  else .error .unusedFunction

/-- A 32-bit word (R266, R267). -/
def decode32 (w : Word) : Except DecodeError Instr :=
  if opcodeOf w = 0b0110111#7 then .ok (.lui (rdOf w) (immUOf w))
  else if opcodeOf w = 0b0010111#7 then .ok (.auipc (rdOf w) (immUOf w))
  else if opcodeOf w = 0b1101111#7 then .ok (.jal (rdOf w) (immJOf w))
  else if opcodeOf w = 0b1100111#7 then
    if funct3Of w = 0#3 then .ok (.jalr (rdOf w) (rs1Of w) (immIOf w)) else .error .unusedFunction
  else if opcodeOf w = 0b1100011#7 then decodeBranch w
  else if opcodeOf w = 0b0000011#7 then decodeLoad w
  else if opcodeOf w = 0b0100011#7 then decodeStore w
  else if opcodeOf w = 0b0010011#7 then decodeOpImm w
  else if opcodeOf w = 0b0110011#7 then decodeOp w
  else if opcodeOf w = 0b0001111#7 then decodeFence w
  else if opcodeOf w = 0b1110011#7 then decodeSystem w
  else .error .unusedOpcode

/-- Quadrant 00 (R274). -/
def decodeQ0 (h : Half) : Except DecodeError Instr :=
  if cFunct3Of h = 0#3 then
    if immCiwOf h = 0#10 then
      if cLowOf h = 0#3 then .ok .cIllegal else .error .reservedCompressed
    else .ok (.cAddi4spn (cLowOf h) (immCiwOf h))
  else if cFunct3Of h = 2#3 then .ok (.cLw (cLowOf h) (cHighOf h) (immClOf h))
  else if cFunct3Of h = 6#3 then .ok (.cSw (cHighOf h) (cLowOf h) (immClOf h))
  else .error .unusedCompressed

/-- Quadrant 01, funct3 100 (R274). -/
def decodeQ1Arith (h : Half) : Except DecodeError Instr :=
  if h.extractLsb' 10 2 = 0#2 then
    if cBit12Of h = 0#1 then .ok (.cSrli (cHighOf h) (cRs2Of h)) else .error .nonStandardShift
  else if h.extractLsb' 10 2 = 1#2 then
    if cBit12Of h = 0#1 then .ok (.cSrai (cHighOf h) (cRs2Of h)) else .error .nonStandardShift
  else if h.extractLsb' 10 2 = 2#2 then .ok (.cAndi (cHighOf h) (immCIOf h))
  else if cBit12Of h = 0#1 then
    if h.extractLsb' 5 2 = 0#2 then .ok (.cSub (cHighOf h) (cLowOf h))
    else if h.extractLsb' 5 2 = 1#2 then .ok (.cXor (cHighOf h) (cLowOf h))
    else if h.extractLsb' 5 2 = 2#2 then .ok (.cOr (cHighOf h) (cLowOf h))
    else .ok (.cAnd (cHighOf h) (cLowOf h))
  else .error .unusedCompressed

/-- Quadrant 01 (R274). -/
def decodeQ1 (h : Half) : Except DecodeError Instr :=
  if cFunct3Of h = 0#3 then
    if cRdOf h = 0#5 then
      if immCIOf h = 0#6 then .ok .cNop else .error .undefinedCNop
    else .ok (.cAddi (cRdOf h) (immCIOf h))
  else if cFunct3Of h = 1#3 then .ok (.cJal (immCjOf h))
  else if cFunct3Of h = 2#3 then .ok (.cLi (cRdOf h) (immCIOf h))
  else if cFunct3Of h = 3#3 then
    if immCIOf h = 0#6 then .error .reservedCompressed
    else if cRdOf h = 2#5 then .ok (.cAddi16sp (immC16spOf h))
    else .ok (.cLui (cRdOf h) (immCIOf h))
  else if cFunct3Of h = 4#3 then decodeQ1Arith h
  else if cFunct3Of h = 5#3 then .ok (.cJ (immCjOf h))
  else if cFunct3Of h = 6#3 then .ok (.cBeqz (cHighOf h) (immCbOf h))
  else .ok (.cBnez (cHighOf h) (immCbOf h))

/-- Quadrant 10 (R274). -/
def decodeQ2 (h : Half) : Except DecodeError Instr :=
  if cFunct3Of h = 0#3 then
    if cBit12Of h = 0#1 then .ok (.cSlli (cRdOf h) (cRs2Of h)) else .error .nonStandardShift
  else if cFunct3Of h = 2#3 then
    if cRdOf h = 0#5 then .error .reservedCompressed else .ok (.cLwsp (cRdOf h) (immClwspOf h))
  else if cFunct3Of h = 4#3 then
    if cBit12Of h = 0#1 then
      if cRs2Of h = 0#5 then
        if cRdOf h = 0#5 then .error .reservedCompressed else .ok (.cJr (cRdOf h))
      else .ok (.cMv (cRdOf h) (cRs2Of h))
    else if cRs2Of h = 0#5 then
      if cRdOf h = 0#5 then .ok .cEbreak else .ok (.cJalr (cRdOf h))
    else .ok (.cAdd (cRdOf h) (cRs2Of h))
  else if cFunct3Of h = 6#3 then .ok (.cSwsp (cRs2Of h) (immCswspOf h))
  else .error .unusedCompressed

/-- A 16-bit halfword, whose low bits are not 11 (R260, R274). -/
def decode16 (h : Half) : Except DecodeError Instr :=
  if quadrantOf h = 0#2 then decodeQ0 h
  else if quadrantOf h = 1#2 then decodeQ1 h
  else if quadrantOf h = 2#2 then decodeQ2 h
  else .error .unusedCompressed

/-- The instruction of a parcel (R260). -/
def decodeParcel : Parcel → Except DecodeError Instr
  | .c16 h => decode16 h
  | .c32 w => decode32 w

/-- The halfword whose byte at the lower address is `b0` (R220). -/
def halfOfBytes (b0 b1 : Byte) : Half := put 8 b1 ||| put 0 b0

/-- The word whose byte at the lowest address is `b0` (R220). -/
def wordOfBytes (b0 b1 b2 b3 : Byte) : Word := put 24 b3 ||| put 16 b2 ||| put 8 b1 ||| put 0 b0

/-- The instruction at the head of a list of bytes in memory order, and the bytes after it (R220, R260). -/
def decode : List Byte → Except DecodeError (Instr × List Byte)
  | b0 :: b1 :: rest =>
    if quadrantOf (halfOfBytes b0 b1) = 3#2 then
      match rest with
      | b2 :: b3 :: rest' =>
        match decode32 (wordOfBytes b0 b1 b2 b3) with
        | .ok i => .ok (i, rest')
        | .error e => .error e
      | _ => .error .truncated
    else
      match decode16 (halfOfBytes b0 b1) with
      | .ok i => .ok (i, rest)
      | .error e => .error e
  | _ => .error .truncated

/-! ## Encoding -/

/-- The R format, also the shift forms with the amount in the place of rs2 (R261). -/
def rWord (f7 : BitVec 7) (rs2 rs1 : Reg) (f3 : BitVec 3) (rd : Reg) (op : BitVec 7) : Word :=
  put 25 f7 ||| put 20 rs2 ||| put 15 rs1 ||| put 12 f3 ||| put 7 rd ||| put 0 op

/-- The I format, also the CSR and SYSTEM forms (R261). -/
def iWord (imm : BitVec 12) (rs1 : Reg) (f3 : BitVec 3) (rd : Reg) (op : BitVec 7) : Word :=
  put 20 imm ||| put 15 rs1 ||| put 12 f3 ||| put 7 rd ||| put 0 op

/-- The S format (R261). -/
def sWord (imm : BitVec 12) (rs2 rs1 : Reg) (f3 : BitVec 3) : Word :=
  put 25 (imm.extractLsb' 5 7) ||| put 20 rs2 ||| put 15 rs1 ||| put 12 f3 ||| put 7 (imm.extractLsb' 0 5)
    ||| put 0 0b0100011#7

/-- The B format (R261, R262). -/
def bWord (imm : BitVec 13) (rs2 rs1 : Reg) (f3 : BitVec 3) : Word :=
  put 31 (imm.extractLsb' 12 1) ||| put 25 (imm.extractLsb' 5 6) ||| put 20 rs2 ||| put 15 rs1 ||| put 12 f3
    ||| put 8 (imm.extractLsb' 1 4) ||| put 7 (imm.extractLsb' 11 1) ||| put 0 0b1100011#7

/-- The U format (R261). -/
def uWord (imm : BitVec 20) (rd : Reg) (op : BitVec 7) : Word :=
  put 12 imm ||| put 7 rd ||| put 0 op

/-- The J format (R261, R262). -/
def jWord (imm : BitVec 21) (rd : Reg) : Word :=
  put 31 (imm.extractLsb' 20 1) ||| put 21 (imm.extractLsb' 1 10) ||| put 20 (imm.extractLsb' 11 1)
    ||| put 12 (imm.extractLsb' 12 8) ||| put 7 rd ||| put 0 0b1101111#7

/-- The CI format (R271). -/
def ciHalf (f3 : BitVec 3) (imm : BitVec 6) (rd : Reg) (q : BitVec 2) : Half :=
  put 13 f3 ||| put 12 (imm.extractLsb' 5 1) ||| put 7 rd ||| put 2 (imm.extractLsb' 0 5) ||| put 0 q

/-- The CR format (R271). -/
def crHalf (f3 : BitVec 3) (f1 : BitVec 1) (rd rs2 : Reg) : Half :=
  put 13 f3 ||| put 12 f1 ||| put 7 rd ||| put 2 rs2 ||| put 0 2#2

/-- The CB format of C.SRLI, C.SRAI, C.ANDI (R271). -/
def cbArithHalf (bit12 : BitVec 1) (f2 : BitVec 2) (rd : CReg) (low : BitVec 5) : Half :=
  put 13 0b100#3 ||| put 12 bit12 ||| put 10 f2 ||| put 7 rd ||| put 2 low ||| put 0 1#2

/-- The CS format of C.SUB, C.XOR, C.OR, C.AND (R271). -/
def csArithHalf (rd : CReg) (f2 : BitVec 2) (rs2 : CReg) : Half :=
  put 13 0b100#3 ||| put 10 0b11#2 ||| put 7 rd ||| put 5 f2 ||| put 2 rs2 ||| put 0 1#2

/-- The CL and CS formats of C.LW and C.SW (R273). -/
def clHalf (f3 : BitVec 3) (imm : BitVec 7) (high low : CReg) : Half :=
  put 13 f3 ||| put 10 (imm.extractLsb' 3 3) ||| put 7 high ||| put 6 (imm.extractLsb' 2 1)
    ||| put 5 (imm.extractLsb' 6 1) ||| put 2 low ||| put 0 0#2

/-- The CIW format of C.ADDI4SPN (R273). -/
def ciwHalf (imm : BitVec 10) (rd : CReg) : Half :=
  put 13 0#3 ||| put 11 (imm.extractLsb' 4 2) ||| put 7 (imm.extractLsb' 6 4) ||| put 6 (imm.extractLsb' 2 1)
    ||| put 5 (imm.extractLsb' 3 1) ||| put 2 rd ||| put 0 0#2

/-- The CJ format of C.J and C.JAL (R273). -/
def cjHalf (f3 : BitVec 3) (imm : BitVec 12) : Half :=
  put 13 f3 ||| put 12 (imm.extractLsb' 11 1) ||| put 11 (imm.extractLsb' 4 1) ||| put 9 (imm.extractLsb' 8 2)
    ||| put 8 (imm.extractLsb' 10 1) ||| put 7 (imm.extractLsb' 6 1) ||| put 6 (imm.extractLsb' 7 1)
    ||| put 3 (imm.extractLsb' 1 3) ||| put 2 (imm.extractLsb' 5 1) ||| put 0 1#2

/-- The CB format of C.BEQZ and C.BNEZ (R273). -/
def cbHalf (f3 : BitVec 3) (imm : BitVec 9) (rs1 : CReg) : Half :=
  put 13 f3 ||| put 12 (imm.extractLsb' 8 1) ||| put 10 (imm.extractLsb' 3 2) ||| put 7 rs1
    ||| put 5 (imm.extractLsb' 6 2) ||| put 3 (imm.extractLsb' 1 2) ||| put 2 (imm.extractLsb' 5 1)
    ||| put 0 1#2

/-- C.ADDI16SP (R273). -/
def c16spHalf (imm : BitVec 10) : Half :=
  put 13 0b011#3 ||| put 12 (imm.extractLsb' 9 1) ||| put 7 2#5 ||| put 6 (imm.extractLsb' 4 1)
    ||| put 5 (imm.extractLsb' 6 1) ||| put 3 (imm.extractLsb' 7 2) ||| put 2 (imm.extractLsb' 5 1)
    ||| put 0 1#2

/-- C.LWSP (R273). -/
def clwspHalf (imm : BitVec 8) (rd : Reg) : Half :=
  put 13 0b010#3 ||| put 12 (imm.extractLsb' 5 1) ||| put 7 rd ||| put 4 (imm.extractLsb' 2 3)
    ||| put 2 (imm.extractLsb' 6 2) ||| put 0 2#2

/-- C.SWSP (R273). -/
def cswspHalf (imm : BitVec 8) (rs2 : Reg) : Half :=
  put 13 0b110#3 ||| put 9 (imm.extractLsb' 2 4) ||| put 7 (imm.extractLsb' 6 2) ||| put 2 rs2 ||| put 0 2#2

/-- The words of an instruction (R261 to R266, R271 to R273). -/
def encode : Instr → Parcel
  | .lui rd imm => .c32 (uWord imm rd 0b0110111#7)
  | .auipc rd imm => .c32 (uWord imm rd 0b0010111#7)
  | .jal rd imm => .c32 (jWord imm rd)
  | .jalr rd rs1 imm => .c32 (iWord imm rs1 0b000#3 rd 0b1100111#7)
  | .beq rs1 rs2 imm => .c32 (bWord imm rs2 rs1 0b000#3)
  | .bne rs1 rs2 imm => .c32 (bWord imm rs2 rs1 0b001#3)
  | .blt rs1 rs2 imm => .c32 (bWord imm rs2 rs1 0b100#3)
  | .bge rs1 rs2 imm => .c32 (bWord imm rs2 rs1 0b101#3)
  | .bltu rs1 rs2 imm => .c32 (bWord imm rs2 rs1 0b110#3)
  | .bgeu rs1 rs2 imm => .c32 (bWord imm rs2 rs1 0b111#3)
  | .lb rd rs1 imm => .c32 (iWord imm rs1 0b000#3 rd 0b0000011#7)
  | .lh rd rs1 imm => .c32 (iWord imm rs1 0b001#3 rd 0b0000011#7)
  | .lw rd rs1 imm => .c32 (iWord imm rs1 0b010#3 rd 0b0000011#7)
  | .lbu rd rs1 imm => .c32 (iWord imm rs1 0b100#3 rd 0b0000011#7)
  | .lhu rd rs1 imm => .c32 (iWord imm rs1 0b101#3 rd 0b0000011#7)
  | .sb rs1 rs2 imm => .c32 (sWord imm rs2 rs1 0b000#3)
  | .sh rs1 rs2 imm => .c32 (sWord imm rs2 rs1 0b001#3)
  | .sw rs1 rs2 imm => .c32 (sWord imm rs2 rs1 0b010#3)
  | .addi rd rs1 imm => .c32 (iWord imm rs1 0b000#3 rd 0b0010011#7)
  | .slti rd rs1 imm => .c32 (iWord imm rs1 0b010#3 rd 0b0010011#7)
  | .sltiu rd rs1 imm => .c32 (iWord imm rs1 0b011#3 rd 0b0010011#7)
  | .xori rd rs1 imm => .c32 (iWord imm rs1 0b100#3 rd 0b0010011#7)
  | .ori rd rs1 imm => .c32 (iWord imm rs1 0b110#3 rd 0b0010011#7)
  | .andi rd rs1 imm => .c32 (iWord imm rs1 0b111#3 rd 0b0010011#7)
  | .slli rd rs1 shamt => .c32 (rWord 0b0000000#7 shamt rs1 0b001#3 rd 0b0010011#7)
  | .srli rd rs1 shamt => .c32 (rWord 0b0000000#7 shamt rs1 0b101#3 rd 0b0010011#7)
  | .srai rd rs1 shamt => .c32 (rWord 0b0100000#7 shamt rs1 0b101#3 rd 0b0010011#7)
  | .add rd rs1 rs2 => .c32 (rWord 0b0000000#7 rs2 rs1 0b000#3 rd 0b0110011#7)
  | .sub rd rs1 rs2 => .c32 (rWord 0b0100000#7 rs2 rs1 0b000#3 rd 0b0110011#7)
  | .sll rd rs1 rs2 => .c32 (rWord 0b0000000#7 rs2 rs1 0b001#3 rd 0b0110011#7)
  | .slt rd rs1 rs2 => .c32 (rWord 0b0000000#7 rs2 rs1 0b010#3 rd 0b0110011#7)
  | .sltu rd rs1 rs2 => .c32 (rWord 0b0000000#7 rs2 rs1 0b011#3 rd 0b0110011#7)
  | .xor rd rs1 rs2 => .c32 (rWord 0b0000000#7 rs2 rs1 0b100#3 rd 0b0110011#7)
  | .srl rd rs1 rs2 => .c32 (rWord 0b0000000#7 rs2 rs1 0b101#3 rd 0b0110011#7)
  | .sra rd rs1 rs2 => .c32 (rWord 0b0100000#7 rs2 rs1 0b101#3 rd 0b0110011#7)
  | .or rd rs1 rs2 => .c32 (rWord 0b0000000#7 rs2 rs1 0b110#3 rd 0b0110011#7)
  | .and rd rs1 rs2 => .c32 (rWord 0b0000000#7 rs2 rs1 0b111#3 rd 0b0110011#7)
  | .fence pred succ => .c32 (iWord (put 4 pred ||| put 0 succ) 0#5 0b000#3 0#5 0b0001111#7)
  | .fenceI => .c32 (iWord 0#12 0#5 0b001#3 0#5 0b0001111#7)
  | .ecall => .c32 (iWord 0x000#12 0#5 0b000#3 0#5 0b1110011#7)
  | .ebreak => .c32 (iWord 0x001#12 0#5 0b000#3 0#5 0b1110011#7)
  | .mret => .c32 (iWord 0x302#12 0#5 0b000#3 0#5 0b1110011#7)
  | .wfi => .c32 (iWord 0x105#12 0#5 0b000#3 0#5 0b1110011#7)
  | .csrrw rd csr rs1 => .c32 (iWord csr rs1 0b001#3 rd 0b1110011#7)
  | .csrrs rd csr rs1 => .c32 (iWord csr rs1 0b010#3 rd 0b1110011#7)
  | .csrrc rd csr rs1 => .c32 (iWord csr rs1 0b011#3 rd 0b1110011#7)
  | .csrrwi rd csr zimm => .c32 (iWord csr zimm 0b101#3 rd 0b1110011#7)
  | .csrrsi rd csr zimm => .c32 (iWord csr zimm 0b110#3 rd 0b1110011#7)
  | .csrrci rd csr zimm => .c32 (iWord csr zimm 0b111#3 rd 0b1110011#7)
  | .mul rd rs1 rs2 => .c32 (rWord 0b0000001#7 rs2 rs1 0b000#3 rd 0b0110011#7)
  | .mulh rd rs1 rs2 => .c32 (rWord 0b0000001#7 rs2 rs1 0b001#3 rd 0b0110011#7)
  | .mulhsu rd rs1 rs2 => .c32 (rWord 0b0000001#7 rs2 rs1 0b010#3 rd 0b0110011#7)
  | .mulhu rd rs1 rs2 => .c32 (rWord 0b0000001#7 rs2 rs1 0b011#3 rd 0b0110011#7)
  | .div rd rs1 rs2 => .c32 (rWord 0b0000001#7 rs2 rs1 0b100#3 rd 0b0110011#7)
  | .divu rd rs1 rs2 => .c32 (rWord 0b0000001#7 rs2 rs1 0b101#3 rd 0b0110011#7)
  | .rem rd rs1 rs2 => .c32 (rWord 0b0000001#7 rs2 rs1 0b110#3 rd 0b0110011#7)
  | .remu rd rs1 rs2 => .c32 (rWord 0b0000001#7 rs2 rs1 0b111#3 rd 0b0110011#7)
  | .cIllegal => .c16 0#16
  | .cAddi4spn rd imm => .c16 (ciwHalf imm rd)
  | .cLw rd rs1 imm => .c16 (clHalf 0b010#3 imm rs1 rd)
  | .cSw rs1 rs2 imm => .c16 (clHalf 0b110#3 imm rs1 rs2)
  | .cNop => .c16 (ciHalf 0b000#3 0#6 0#5 1#2)
  | .cAddi rd imm => .c16 (ciHalf 0b000#3 imm rd 1#2)
  | .cJal imm => .c16 (cjHalf 0b001#3 imm)
  | .cLi rd imm => .c16 (ciHalf 0b010#3 imm rd 1#2)
  | .cAddi16sp imm => .c16 (c16spHalf imm)
  | .cLui rd imm => .c16 (ciHalf 0b011#3 imm rd 1#2)
  | .cSrli rd shamt => .c16 (cbArithHalf 0#1 0b00#2 rd shamt)
  | .cSrai rd shamt => .c16 (cbArithHalf 0#1 0b01#2 rd shamt)
  | .cAndi rd imm => .c16 (cbArithHalf (imm.extractLsb' 5 1) 0b10#2 rd (imm.extractLsb' 0 5))
  | .cSub rd rs2 => .c16 (csArithHalf rd 0b00#2 rs2)
  | .cXor rd rs2 => .c16 (csArithHalf rd 0b01#2 rs2)
  | .cOr rd rs2 => .c16 (csArithHalf rd 0b10#2 rs2)
  | .cAnd rd rs2 => .c16 (csArithHalf rd 0b11#2 rs2)
  | .cJ imm => .c16 (cjHalf 0b101#3 imm)
  | .cBeqz rs1 imm => .c16 (cbHalf 0b110#3 imm rs1)
  | .cBnez rs1 imm => .c16 (cbHalf 0b111#3 imm rs1)
  | .cSlli rd shamt => .c16 (ciHalf 0b000#3 (put 0 shamt) rd 2#2)
  | .cLwsp rd imm => .c16 (clwspHalf imm rd)
  | .cJr rs1 => .c16 (crHalf 0b100#3 0#1 rs1 0#5)
  | .cMv rd rs2 => .c16 (crHalf 0b100#3 0#1 rd rs2)
  | .cEbreak => .c16 (crHalf 0b100#3 1#1 0#5 0#5)
  | .cJalr rs1 => .c16 (crHalf 0b100#3 1#1 rs1 0#5)
  | .cAdd rd rs2 => .c16 (crHalf 0b100#3 1#1 rd rs2)
  | .cSwsp rs2 imm => .c16 (cswspHalf imm rs2)

/-- The instruction's length in bytes (R25, R260). -/
def Parcel.len : Parcel → Word
  | .c16 _ => 2#32
  | .c32 _ => 4#32

/-- The instruction's bits as a trap value: the word, or the halfword zero-extended (R523). -/
def Parcel.value : Parcel → Word
  | .c16 h => h.setWidth 32
  | .c32 w => w

/-- The bytes of the instruction in memory, the lowest address first (R220). -/
def Parcel.bytes : Parcel → List Byte
  | .c16 h => [h.extractLsb' 0 8, h.extractLsb' 8 8]
  | .c32 w => [w.extractLsb' 0 8, w.extractLsb' 8 8, w.extractLsb' 16 8, w.extractLsb' 24 8]

/-! ## The instruction set of a configuration -/

/-- The extension a row belongs to (R288). -/
inductive Ext where
  | base
  | mulDiv
  | compressed
  deriving DecidableEq, Repr

/-- The extension of an instruction (R266, R273). -/
def Instr.ext : Instr → Ext
  | .mul _ _ _ | .mulh _ _ _ | .mulhsu _ _ _ | .mulhu _ _ _ | .div _ _ _ | .divu _ _ _ | .rem _ _ _
  | .remu _ _ _ => .mulDiv
  | .cIllegal | .cAddi4spn _ _ | .cLw _ _ _ | .cSw _ _ _ | .cNop | .cAddi _ _ | .cJal _ | .cLi _ _
  | .cAddi16sp _ | .cLui _ _ | .cSrli _ _ | .cSrai _ _ | .cAndi _ _ | .cSub _ _ | .cXor _ _ | .cOr _ _
  | .cAnd _ _ | .cJ _ | .cBeqz _ _ | .cBnez _ _ | .cSlli _ _ | .cLwsp _ _ | .cJr _ | .cMv _ _ | .cEbreak
  | .cJalr _ | .cAdd _ _ | .cSwsp _ _ => .compressed
  | .lui _ _ | .auipc _ _ | .jal _ _ | .jalr _ _ _ | .beq _ _ _ | .bne _ _ _ | .blt _ _ _ | .bge _ _ _
  | .bltu _ _ _ | .bgeu _ _ _ | .lb _ _ _ | .lh _ _ _ | .lw _ _ _ | .lbu _ _ _ | .lhu _ _ _ | .sb _ _ _
  | .sh _ _ _ | .sw _ _ _ | .addi _ _ _ | .slti _ _ _ | .sltiu _ _ _ | .xori _ _ _ | .ori _ _ _ | .andi _ _ _
  | .slli _ _ _ | .srli _ _ _ | .srai _ _ _ | .add _ _ _ | .sub _ _ _ | .sll _ _ _ | .slt _ _ _ | .sltu _ _ _
  | .xor _ _ _ | .srl _ _ _ | .sra _ _ _ | .or _ _ _ | .and _ _ _ | .fence _ _ | .fenceI | .ecall | .ebreak
  | .mret | .wfi | .csrrw _ _ _ | .csrrs _ _ _ | .csrrc _ _ _ | .csrrwi _ _ _ | .csrrsi _ _ _
  | .csrrci _ _ _ => .base

/-- The full 5-bit register fields that a row uses as register numbers (R283). -/
def Instr.fullRegs : Instr → List Reg
  | .lui rd _ | .auipc rd _ | .jal rd _ => [rd]
  | .jalr rd rs1 _ | .lb rd rs1 _ | .lh rd rs1 _ | .lw rd rs1 _ | .lbu rd rs1 _ | .lhu rd rs1 _
  | .addi rd rs1 _ | .slti rd rs1 _ | .sltiu rd rs1 _ | .xori rd rs1 _ | .ori rd rs1 _ | .andi rd rs1 _
  | .slli rd rs1 _ | .srli rd rs1 _ | .srai rd rs1 _ => [rd, rs1]
  | .beq rs1 rs2 _ | .bne rs1 rs2 _ | .blt rs1 rs2 _ | .bge rs1 rs2 _ | .bltu rs1 rs2 _ | .bgeu rs1 rs2 _
  | .sb rs1 rs2 _ | .sh rs1 rs2 _ | .sw rs1 rs2 _ => [rs1, rs2]
  | .add rd rs1 rs2 | .sub rd rs1 rs2 | .sll rd rs1 rs2 | .slt rd rs1 rs2 | .sltu rd rs1 rs2
  | .xor rd rs1 rs2 | .srl rd rs1 rs2 | .sra rd rs1 rs2 | .or rd rs1 rs2 | .and rd rs1 rs2
  | .mul rd rs1 rs2 | .mulh rd rs1 rs2 | .mulhsu rd rs1 rs2 | .mulhu rd rs1 rs2 | .div rd rs1 rs2
  | .divu rd rs1 rs2 | .rem rd rs1 rs2 | .remu rd rs1 rs2 => [rd, rs1, rs2]
  | .csrrw rd _ rs1 | .csrrs rd _ rs1 | .csrrc rd _ rs1 => [rd, rs1]
  | .csrrwi rd _ _ | .csrrsi rd _ _ | .csrrci rd _ _ => [rd]
  | .cAddi rd _ | .cLi rd _ | .cLui rd _ | .cSlli rd _ | .cLwsp rd _ => [rd]
  | .cJr rs1 | .cJalr rs1 => [rs1]
  | .cMv rd rs2 | .cAdd rd rs2 => [rd, rs2]
  | .cSwsp rs2 _ => [rs2]
  | .fence _ _ | .fenceI | .ecall | .ebreak | .mret | .wfi | .cIllegal | .cAddi4spn _ _ | .cLw _ _ _
  | .cSw _ _ _ | .cNop | .cJal _ | .cAddi16sp _ | .cSrli _ _ | .cSrai _ _ | .cAndi _ _ | .cSub _ _ | .cXor _ _
  | .cOr _ _ | .cAnd _ _ | .cJ _ | .cBeqz _ _ | .cBnez _ _ | .cEbreak => []

/-- The configuration has the instruction: its extension is on (R260, R266, R400, R420), and under RV32E no
register number is above 15 (R283). -/
def Instr.existsIn (c : Config) (i : Instr) : Bool :=
  (match i.ext with
    | .base => true
    | .mulDiv => c.rvm
    | .compressed => c.rvc)
  && (!c.rve || i.fullRegs.all (fun r => r.toNat < 16))

/-- The instruction the decoder reads from a row of spec/opcode_table.json: the table's `nbits` low bits of `w`,
every higher bit 0, stored little-endian, at most four bytes (R220, R288). -/
def decodeTableWord (nbits w : Nat) : Option Instr :=
  let v : Word := BitVec.ofNat 32 (w % 2 ^ nbits)
  match decode (Parcel.bytes (.c32 v)) with
  | .ok (i, _) => some i
  | .error _ => none

end Sys2Proof
end

