-- ==== Sys2Proof/Machine/Platform.lean ====
section
/-!
DEFINITION. What is computed from the configuration record: its default values (spec/00_scope.md R6, R7), which
records are configurations of this hardware, the two address windows (spec/20_memory.md R230, R237, R238) and the
platform's answers (R240).
-/

namespace Sys2Proof

/-- The defaults of R6, and for the open parameters of R7 the values the spec recommends or assumes
(notes/assumptions/1.md, notes/assumptions/2.md). -/
def Config.default : Config where
  rve := false
  rvm := true
  rvc := true
  dbgcEn := true
  brkmEn := true
  ipicEn := true
  ipicSyncEn := true
  vectIrqEn := false
  csrMcountenEn := true
  tcmEn := true
  rstVector := 0x200#32
  mtvecBase := 0x1C0#32
  tcmMask := 0xFFFF0000#32
  tcmPattern := 0x00480000#32
  timerMask := 0xFFFFFFE0#32
  timerPattern := 0x00490000#32
  hartidFuse := 0#32
  tcmSize := 65536
  bpNum := 2
  brkmSup := [⟨true, true, true, true, true⟩, ⟨true, true, true, true, true⟩]
  cntCsrsPresent := true
  misaRvx := true
  unifiedExternalMemory := true
  regions := [⟨0, 0x400000, true, true, true, [1, 2, 4], false⟩]
  ipicLevelIpLive := true
  ipicSoiClearsIp := false
  interruptLatencyZero := true
  brkmDataCsrs := .absent
  dbgScratchWithoutDbgc := true

/-- A pattern with a bit outside its mask: (a & MASK) == PATTERN selects no address (R230). -/
def selectsNothing (mask pattern : Word) : Bool := pattern &&& ~~~mask != 0#32

/-- The TCM and timer windows share no address (R230, U23): there is no TCM, or one window selects no address, or some
bit that both masks compare differs. -/
def Config.windowsDisjoint (c : Config) : Bool :=
  !c.tcmEn || selectsNothing c.tcmMask c.tcmPattern || selectsNothing c.timerMask c.timerPattern
    || (c.tcmPattern ^^^ c.timerPattern) &&& c.tcmMask &&& c.timerMask != 0#32

/-- A configuration of this hardware: BRKM and DBGC together (R6), the windows apart (R230), 2 to 8 breakpoints
(R7, R140), at most 64 KiB of TCM (R237), the reset vector and the trap base multiples of 4 (R26), the counters
present unless RV32E leaves them out (R7), every region inside the 32-bit address space (R222). -/
def Config.legal (c : Config) : Bool :=
  (c.brkmEn == c.dbgcEn) && c.windowsDisjoint
    && decide (2 ≤ c.bpNum) && decide (c.bpNum ≤ 8) && decide (c.tcmSize ≤ 65536)
    && c.rstVector.extractLsb' 0 2 == 0#2 && c.mtvecBase.extractLsb' 0 2 == 0#2
    && (c.rve || c.cntCsrsPresent)
    && c.regions.all (fun r => decide (r.base + r.size ≤ 2 ^ 32))

/-- The support bits of breakpoint `b`; a breakpoint the list does not mention supports everything. -/
def Config.sup (c : Config) (b : Nat) : BpSupport :=
  c.brkmSup.getD b ⟨true, true, true, true, true⟩

/-- How many bits of BPSELECT.BP are implemented: enough to count BRKM_BP_NUM breakpoints (R140). -/
def Config.bpWidth (c : Config) : Nat :=
  if c.bpNum ≤ 2 then 1 else if c.bpNum ≤ 4 then 2 else 3

/-- MCOUNTEN exists (R52). -/
def Config.mcountenPresent (c : Config) : Bool := c.csrMcountenEn && c.cntCsrsPresent

/-- The region holding the `n` bytes at address `a`, the first of the list (R239). -/
def Config.regionOf (c : Config) (a n : Nat) : Option Region :=
  c.regions.find? (fun r => decide (r.base ≤ a) && decide (a + n ≤ r.base + r.size))

/-- The data bus completes an access of this kind and size in the region (R240). -/
def Region.answers (r : Region) (n : Nat) : AccessKind → Bool
  | .load => r.load && r.widths.contains n
  | .store => r.store && r.widths.contains n

/-- DataAccessible(a, n, kind) (R240). -/
def Config.dataAccessible (c : Config) (a n : Nat) (k : AccessKind) : Bool :=
  match c.regionOf a n with
  | none => false
  | some r => r.answers n k

/-- FetchAccessible(w): the instruction bus completes the read of the word at `w` (R240). -/
def Config.fetchAccessible (c : Config) (w : Nat) : Bool :=
  match c.regionOf w 4 with
  | none => false
  | some r => r.fetch

/-- The `n` bytes at `a` belong to a device (R239). -/
def Config.isDevice (c : Config) (a n : Nat) : Bool :=
  match c.regionOf a n with
  | none => false
  | some r => r.device

/-- `a` is in the TCM window (R237). -/
def Config.inTcm (c : Config) (a : Word) : Bool := c.tcmEn && (a &&& c.tcmMask) == c.tcmPattern

/-- The offset of `a` in the TCM (R237). -/
def Config.tcmOffset (c : Config) (a : Word) : Nat := (a &&& ~~~c.tcmMask).toNat

/-- `a` is in the timer window (R238). -/
def Config.inTimer (c : Config) (a : Word) : Bool := (a &&& c.timerMask) == c.timerPattern

/-- The offset of `a` in the timer window (R105). -/
def Config.timerOffset (c : Config) (a : Word) : Nat := (a &&& ~~~c.timerMask).toNat

/-- An address made to meet the instruction alignment of R226: 2 bytes with the C extension, 4 without. -/
def Config.alignPc (c : Config) (a : Word) : Word :=
  if c.rvc then a &&& 0xFFFFFFFE#32 else a &&& 0xFFFFFFFC#32

end Sys2Proof
end

