-- ==== Sys2Proof/Machine/State.lean ====
section
/-!
DEFINITION. The state of the machine as plain data, the ways a step can stop, and the state after reset
(spec/10_state.md, spec/11_state_timer_ipic_brkm.md, spec/12_state_debug.md; the reset table is R62).
Two fields are the model's own and not the spec's: `env`, the schedule of the host's moves
(notes/assumptions/6.md), and `freeIdx`, the counter the free values are applied to (notes/assumptions/7.md).
-/

namespace Sys2Proof.Machine

open Sys2Proof

/-- A memory: a partial map from address to byte, the listed bytes those that something has written, in the canonical
form of Memory.wf (Machine/Ops.lean; R222, R237, R239). -/
abbrev Memory := List Host.Cell

/-! ## The blocks beside the hart -/

/-- The timer (R101 to R103) and its divider phase (R56, R535). -/
structure Timer where
  /-- MTIMEH ++ MTIME -/
  mtime : DWord
  /-- MTIMECMPH ++ MTIMECMP -/
  mtimecmp : DWord
  /-- MTIMECLKSET.COEF -/
  coef : Half
  /-- MTIMECLKSET.CLKSEL: false is rtc_clk, true is clk -/
  clksel : Bool
  /-- MTIMECLKSET.EN -/
  en : Bool
  /-- ticks since the last increment of mtime (R56) -/
  phase : Nat
  deriving DecidableEq, Repr

/-- The interrupt controller (R112), one bit for each vector, and the line history (R56, R506). -/
structure Ipic where
  ip : BitVec 16
  ie : BitVec 16
  im : BitVec 16
  inv : BitVec 16
  /-- IS, the register IPIC_ISVR -/
  isv : BitVec 16
  idx : BitVec 4
  /-- first synchronizer stage -/
  sync1 : BitVec 16
  /-- second synchronizer stage -/
  sync2 : BitVec 16
  /-- the line levels at the previous sampling -/
  prev : BitVec 16
  deriving DecidableEq, Repr

/-- The storage of one hardware breakpoint (R141 to R143, R146, R147); its SUP bits are Config.sup. -/
structure Breakpoint where
  amasken : Bool
  aen : Bool
  execen : Bool
  storeen : Bool
  loaden : Bool
  action : BitVec 3
  matched : Bool
  /-- BPLOADDR -/
  loAddr : Word
  /-- BPHIADDR -/
  hiAddr : Word
  dryrun : Bool
  /-- BPCTRLEXT.AMASKEXT_EN -/
  amaskext : Bool
  deriving DecidableEq, Repr

/-- The breakpoint module (R139 to R149). -/
structure Brkm where
  /-- BPSELECT.BP -/
  bpselect : BitVec 12
  bps : List Breakpoint
  /-- BRKMCTRL.BP_I_SKIP -/
  bpISkip : Bool
  /-- the instruction-breakpoint skip flag (R56): set by BRKMCTRL.INIT -/
  skipArmed : Bool
  /-- BRKMCTRL.MODE -/
  mode : Bool
  deriving DecidableEq, Repr

/-- HART_DBG_CTRL (R192). -/
structure HartDbgCtrl where
  pcAdvmtDsbl : Bool
  rst : Bool
  deriving DecidableEq, Repr

/-- HART_DBG_STS (R191), but for DMODE (Debug.dmode), Rst (State.inReset) and the constant PLVL. -/
structure HartDbgSts where
  lockStky : Bool
  errTimeout : Bool
  errUnexpRst : Bool
  errIllegContxt : Bool
  errDbgCmdNack : Bool
  errDapOpcode : Bool
  errHwThread : Bool
  err : Bool
  except : Bool
  rstStky : Bool
  deriving DecidableEq, Repr

/-- HART_DMODE_ENBL (R193). -/
structure DmodeEnbl where
  rstExit : Bool
  sStep : Bool
  brkpt : Bool
  deriving DecidableEq, Repr

/-- HART_DMODE_CAUSE (R194). -/
structure DmodeCause where
  enforce : Bool
  rstExit : Bool
  rstEntr : Bool
  sStep : Bool
  hwBrkpt : Bool
  brkpt : Bool
  deriving DecidableEq, Repr

/-- CORE_DBG_CTRL (R201). -/
structure CoreDbgCtrl where
  irqDsbl : Bool
  rst : Bool
  /-- HART0_Rst, "Reserved for future use": reads 0, a write of 1 is refused (U40) -/
  hart0Rst : Bool
  deriving DecidableEq, Repr

/-- CORE_DBG_STS (R202), but for HART0_DMODE (Debug.dmode), Rst and HART0_Rst (State.inReset) and PLVL. -/
structure CoreDbgSts where
  ready : Bool
  lock : Bool
  rstStky : Bool
  errDapOpcode : Bool
  errFsmBusy : Bool
  errHwCore : Bool
  errStky : Bool
  err : Bool
  hart0ErrStky : Bool
  hart0Err : Bool
  hart0RstStky : Bool
  deriving DecidableEq, Repr

/-- The TAP controller's storage (R171 to R184). -/
structure Tapc where
  /-- the instruction register (R171) -/
  ir : BitVec 4
  /-- what the last scan of a data register captured, shifted out on tdo (R172) -/
  captured : BitVec 36
  /-- CPU Subsystem Reset Control (R183) -/
  sysCtrl : Bool
  /-- Master TAP Switch Control (R184) -/
  mtapSwitch : Bool
  deriving DecidableEq, Repr

/-- The debug controller and the DAP registers (R173, R185 to R202). HART_DBG_DATA is State.dbgScratch (R196). -/
structure Debug where
  dapContext : BitVec 4
  dapOpcode : BitVec 4
  dapOpStatus : BitVec 4
  dapData : Word
  hartCtrl : HartDbgCtrl
  hartSts : HartDbgSts
  dmodeEnbl : DmodeEnbl
  dmodeCause : DmodeCause
  /-- HART_CORE_INSTR -/
  coreInstr : Word
  /-- HART_PC_SAMPLE -/
  pcSample : Word
  coreCtrl : CoreDbgCtrl
  coreSts : CoreDbgSts
  /-- HART0_DMODE: the hart is in Debug-Mode (R56, R555) -/
  dmode : Bool
  /-- Resume was given and no instruction has completed since (R193, SStep) -/
  resumed : Bool
  deriving DecidableEq, Repr

/-! ## The host -/

/-- The levels the platform drives (R13). -/
structure Pins where
  /-- rst_n is low -/
  rstAsserted : Bool
  irqLines : BitVec 16
  softIrq : Bool
  extIrq : Bool
  deriving DecidableEq, Repr

/-- What the host, and the agents it clocks, can do between two steps of the hart (R12, R13, R515). -/
inductive HostMove where
  /-- `n` cycles of clk: mcycle, and the timer when CLKSEL = 1 (R47, R535) -/
  | clk (n : Nat)
  /-- `n` cycles of rtc_clk: the timer when CLKSEL = 0 (R535) -/
  | rtc (n : Nat)
  | irqLines (v : BitVec 16)
  | softIrq (b : Bool)
  | extIrq (b : Bool)
  /-- one cycle of the IPIC's input synchronizer (R506) -/
  | syncLines
  /-- one sampling step of the IPIC (R506) -/
  | sampleLines
  /-- rst_n: true asserts the reset (R570) -/
  | rstN (asserted : Bool)
  /-- the fetch unit reads the word at an address into its queue (R252) -/
  | prefetch (a : Word)
  /-- the debugger scans the TAPC instruction register (R171) -/
  | scanIr (code : BitVec 4)
  /-- the debugger scans the data register that the instruction register selects (R172) -/
  | scanDr (v : BitVec 36)
  /-- trst_n: reset of the TAPC (R570) -/
  | tapReset
  deriving DecidableEq, Repr

/-- What the host does around one step of the hart: its moves, made after the hart's step, and the two choices
the spec leaves open inside the step. -/
structure Slot where
  moves : List HostMove
  /-- execute the instruction although an interrupt could be taken (R510, when INTERRUPT_LATENCY_ZERO is off) -/
  deferIrq : Bool
  /-- queued words that this step's fetch uses in place of memory (R252) -/
  stale : List (Word × Word)
  deriving DecidableEq, Repr

/-! ## The state -/

/-- Everything the spec gives the machine, the configuration, and the model's own `env` and `freeIdx`. -/
structure State where
  /-- the build and platform parameters: no step changes them (R7) -/
  cfg : Config
  /-- x0..x31 (R20); read and written through State.reg and State.setReg only -/
  regs : Vector Word 32
  /-- the program counter (R24) -/
  pc : Word
  /-- MSTATUS.MIE (R35) -/
  mstatusMie : Bool
  /-- MSTATUS.MPIE (R35) -/
  mstatusMpie : Bool
  /-- MIE.MSIE (R37) -/
  mieMsie : Bool
  /-- MIE.MTIE (R37) -/
  mieMtie : Bool
  /-- MIE.MEIE (R37) -/
  mieMeie : Bool
  /-- MTVEC.MODE (R40) -/
  mtvecMode : BitVec 2
  /-- MSCRATCH (R41) -/
  mscratch : Word
  /-- MEPC, bit 0 always 0 (R42) -/
  mepc : Word
  /-- MCAUSE.INT (R43) -/
  mcauseInt : Bool
  /-- MCAUSE.EC (R43) -/
  mcauseEc : BitVec 4
  /-- MTVAL (R44) -/
  mtval : Word
  /-- MCYCLEH ++ MCYCLE (R47) -/
  mcycle : DWord
  /-- MINSTRETH ++ MINSTRET (R48) -/
  minstret : DWord
  /-- MCOUNTEN.CY (R52) -/
  mcountenCy : Bool
  /-- MCOUNTEN.IR (R52) -/
  mcountenIr : Bool
  /-- DBG_SCRATCH and HART_DBG_DATA (R51, R196) -/
  dbgScratch : Word
  timer : Timer
  ipic : Ipic
  brkm : Brkm
  dbgc : Debug
  tapc : Tapc
  /-- the TCM, by offset (R237) -/
  tcm : Memory
  /-- ExtD, and ExtI when UNIFIED_EXTERNAL_MEMORY (R236) -/
  ext : Memory
  /-- ExtI when not UNIFIED_EXTERNAL_MEMORY (R236) -/
  extI : Memory
  /-- the instruction fetch queue: word addresses with the words read (R252) -/
  fetchQueue : List (Word × Word)
  /-- the wait state (R550) -/
  waiting : Bool
  /-- a reset source has been asserted since the hart last left reset (R572) -/
  inReset : Bool
  pins : Pins
  /-- the host's schedule, one slot for each step (the model's own) -/
  env : List Slot
  /-- the index of the free values (the model's own) -/
  freeIdx : Nat
  deriving DecidableEq, Repr

/-- Why the machine stops with a fault: the program touched an address at which the spec says nothing exists. -/
inductive Fault where
  /-- Raised by a word load or store at offset 0x14, 0x18 or 0x1C of the timer window, where the manual defines
  nothing (R104, U21). Safe: the model stops where the hardware does something unstated. -/
  | timerReservedOffset
  /-- Raised by a load, store or fetch in the TCM window at or beyond TCM_SIZE (R237, U22). Safe: as above. -/
  | tcmBeyondSize
  deriving DecidableEq, Repr

/-- Why the model gives a step no meaning. -/
inductive Refusal where
  /-- Raised by an arm of exec that has no meaning yet. Safe: nothing can be proved of the instruction. -/
  | notModelled (mnemonic : String)
  /-- Raised by step when Config.legal fails (R6, R230, U23). Safe: no such core exists. -/
  | illegalConfiguration
  /-- Raised by a load, store or fetch in a device region of the platform (R239). Safe: the device is unknown. -/
  | deviceAccess
  /-- Raised by CSRRS, CSRRC, CSRRSI, CSRRCI with a non-zero source on an IPIC register: "not supported"
  (R111, U12). Safe: the manual gives no effect. -/
  | ipicSetClear
  /-- Raised by MRET with MEPC[1] = 1 when SCR1_RVC_EXT is off (R372, U9). Safe: no statement covers it. -/
  | mretMisaligned
  /-- Raised by a write to CSR 0x7C1..0x7C3, 0x7C6 while BPSELECT selects no breakpoint (R140, U14). Safe: there is
  nothing to write. -/
  | breakpointAbsent
  /-- Raised by a match of a breakpoint whose ACTION is 3..7 (R141, R545, U16). Safe: the action is reserved. -/
  | reservedBreakpointAction
  /-- Raised by a step that fetches C.NOP's code point with a non-zero immediate (R282 point 5, U26). Safe: the
  manual gives it no row and no effect. -/
  | undefinedEncoding
  /-- Raised by C.SLLI, C.SRLI, C.SRAI with a shift amount of 0 (R282 point 4, U27). Safe: the manual does not define
  it. -/
  | compressedShiftByZero
  /-- Raised by a debugger's move that the manual calls reserved (R171, R185 to R188, U30, U40). Safe: no effect is
  stated. -/
  | debuggerReserved
  /-- Raised by the debugger's CORE_EXEC command, whose working the manual does not describe (R187, R200). Safe. -/
  | coreExecNotDescribed
  deriving DecidableEq, Repr

/-- What an instruction or a step ends in. -/
abbrev Result := Host.Outcome State Fault Refusal

/-! ## Reset (R62, R205, R571) -/

/-- MTIME = 0, MTIMECMP all ones, MTIMECLKSET = 0x30064; the phase is not stated (notes/assumptions/11.md). -/
def Timer.reset : Timer where
  mtime := 0#64
  mtimecmp := 0xFFFFFFFFFFFFFFFF#64
  coef := 0x64#16
  clksel := true
  en := true
  phase := 0

/-- IPIC_RESET_STATE as the spec assumes it (R122); the line history is idle (notes/assumptions/9.md). -/
def Ipic.reset : Ipic where
  ip := 0#16
  ie := 0#16
  im := 0#16
  inv := 0#16
  isv := 0#16
  idx := 0#4
  sync1 := 0#16
  sync2 := 0#16
  prev := 0#16

/-- Every RW field of a breakpoint is zero (R148). -/
def Breakpoint.reset : Breakpoint where
  amasken := false
  aen := false
  execen := false
  storeen := false
  loaden := false
  action := 0#3
  matched := false
  loAddr := 0#32
  hiAddr := 0#32
  dryrun := false
  amaskext := false

/-- BRKM_RESET_STATE as the spec assumes it (R148). -/
def Brkm.reset (c : Config) : Brkm where
  bpselect := 0#12
  bps := List.replicate c.bpNum Breakpoint.reset
  bpISkip := false
  skipArmed := false
  mode := false

/-- The debug registers (R205); the DAP registers' values are not stated (notes/assumptions/45.md). -/
def Debug.reset : Debug where
  dapContext := 0#4
  dapOpcode := 0#4
  dapOpStatus := 0#4
  dapData := 0#32
  hartCtrl := ⟨false, false⟩
  hartSts := ⟨false, false, false, false, false, false, false, false, false, false⟩
  dmodeEnbl := ⟨false, false, false⟩
  dmodeCause := ⟨false, false, false, false, false, false⟩
  coreInstr := 0#32
  pcSample := 0#32
  coreCtrl := ⟨false, false, false⟩
  coreSts := ⟨false, false, false, false, false, false, false, false, false, false, false⟩
  dmode := false
  resumed := false

/-- The TAPC after its own reset; the values are not stated (notes/assumptions/45.md). -/
def Tapc.reset : Tapc where
  ir := 0b1110#4
  captured := 0#36
  sysCtrl := false
  mtapSwitch := false

/-- The platform's levels when nothing is active (notes/assumptions/9.md). -/
def Pins.idle : Pins where
  rstAsserted := false
  irqLines := 0#16
  softIrq := false
  extIrq := false

/-- The machine right after reset in a configuration (R62, R571). -/
def State.resetWith (c : Config) : State where
  cfg := c
  regs := Vector.replicate 32 0#32
  pc := c.rstVector
  mstatusMie := false
  mstatusMpie := true
  mieMsie := false
  mieMtie := false
  mieMeie := false
  mtvecMode := 0#2
  mscratch := 0#32
  mepc := 0#32
  mcauseInt := false
  mcauseEc := 0#4
  mtval := 0#32
  mcycle := 0#64
  minstret := 0#64
  mcountenCy := true
  mcountenIr := true
  dbgScratch := 0#32
  timer := Timer.reset
  ipic := Ipic.reset
  brkm := Brkm.reset c
  dbgc := Debug.reset
  tapc := Tapc.reset
  tcm := []
  ext := []
  extI := []
  fetchQueue := []
  waiting := false
  inReset := false
  pins := Pins.idle
  env := []
  freeIdx := 0

/-- The machine right after reset, in the default configuration (R6, R62). -/
def State.reset : State := State.resetWith Config.default

end Sys2Proof.Machine
end

