-- ==== Sys2Proof/Machine/Ops.lean ====
section
/-!
DEFINITION. The shared operations over registers, memory and control: reading and writing a register, a byte and
a little-endian value; completing an instruction; TAKING AN EXCEPTION OR AN INTERRUPT (R520) and returning from one
(R524); entering Debug-Mode (R555).
-/

namespace Sys2Proof.Machine

open Sys2Proof

/-! ## General registers (R20, R21) -/

/-- x[r]: register x0 reads 0 (R21). -/
def State.reg (s : State) (r : Reg) : Word :=
  if r = 0#5 then 0#32 else s.regs[r.toNat]'r.isLt

/-- x[r] <- v: a write to x0 is discarded (R21). -/
def State.setReg (s : State) (r : Reg) (v : Word) : State :=
  { s with regs := if r = 0#5 then s.regs else s.regs.set r.toNat v r.isLt }

/-! ## Memory (R220, R222, R242) -/

/-- The byte that the partial map of R239 has at an address: none where neither the loader nor a store has written. -/
def Memory.byteAt : Memory → Nat → Option Byte
  | [], _ => none
  | (k, w) :: rest, a => if k = a then some w else Memory.byteAt rest a

/-- One byte stored: the address is listed, and the entries stay in rising order (Memory.wf). -/
def Memory.write : Memory → Nat → Byte → Memory
  | [], a, v => [(a, v)]
  | (k, w) :: rest, a, v =>
    if a < k then (a, v) :: (k, w) :: rest
    else if a = k then (a, v) :: rest
    else (k, w) :: Memory.write rest a v

/-- Every address is at least `lo` and the addresses rise strictly. -/
def Memory.wfFrom : Nat → Memory → Bool
  | _, [] => true
  | lo, (k, _) :: rest => decide (lo ≤ k) && Memory.wfFrom (k + 1) rest

/-- The canonical form: equal memories are equal lists. An unlisted address holds no value, so no entry is one that could
be left out. -/
def Memory.wf (m : Memory) : Bool := Memory.wfFrom 0 m

/-- One of the three memories (R236, R237). -/
def State.memory (s : State) : Bank → Memory
  | .tcm => s.tcm
  | .ext => s.ext
  | .extI => s.extI

/-- B[a]: the byte a read of a memory gives; where nothing has written, a free value (R237, R239, D5,
notes/assumptions/4.md). -/
def State.byte (s : State) (b : Bank) (a : Nat) : Byte :=
  ((s.memory b).byteAt a).getD (Config.freeByte s.freeIdx b a)

/-- LE(B, a, n): the `n` bytes at `a`, the lowest address in the low bits, zero-extended (R220, R242). -/
def readLE (byteAt : Nat → Byte) (a : Nat) : Nat → Word
  | 0 => 0#32
  | n + 1 => (readLE byteAt (a + 1) n <<< 8) ||| (byteAt a).setWidth 32

/-- The memory behind the external instruction bus (R227, R236). -/
def State.fetchBank (s : State) : Bank := if s.cfg.unifiedExternalMemory then .ext else .extI

/-- StoreLE(B, a, n, v): byte i of `v` goes to `a + i` (R242). -/
def Memory.storeLE (m : Memory) (a : Nat) : Nat → Word → Memory
  | 0, _ => m
  | n + 1, v => Memory.storeLE (Memory.write m a (v.extractLsb' 0 8)) (a + 1) n (v >>> 8)

/-! ## Completing an instruction (R25, R48) -/

/-- minstret counts: MCOUNTEN.IR, or always when MCOUNTEN does not exist (R48, R52). -/
def State.countsInstret (s : State) : Bool := !s.cfg.mcountenPresent || s.mcountenIr

/-- mcycle counts: MCOUNTEN.CY, or always when MCOUNTEN does not exist (R47, R52). -/
def State.countsCycles (s : State) : Bool := !s.cfg.mcountenPresent || s.mcountenCy

/-- minstret after one more completed instruction (R48). -/
def State.retired (s : State) : DWord := if s.countsInstret then s.minstret + 1#64 else s.minstret

/-- The instruction completes and `target` is the next pc (R25, R48). -/
def State.jumpTo (s : State) (target : Word) : State := { s with pc := target, minstret := s.retired }

/-- The instruction completes and the pc passes its `len` bytes (R25, R48). -/
def State.complete (s : State) (len : Word) : State := s.jumpTo (s.pc + len)

/-- The instruction completes with `v` in register `rd` (R23, R300). -/
def State.finish (s : State) (rd : Reg) (v : Word) (len : Word) : Result := .next ((s.setReg rd v).complete len)

/-! ## Traps (R470, R500, R520 to R524) -/

/-- The exceptions the core raises (R470). -/
inductive Cause where
  | instrAddrMisaligned
  | instrAccessFault
  | illegalInstruction
  | breakpoint
  | loadAddrMisaligned
  | loadAccessFault
  | storeAddrMisaligned
  | storeAccessFault
  | ecallM
  deriving DecidableEq, Repr

/-- MCAUSE.EC of an exception (R470). -/
def Cause.code : Cause → BitVec 4
  | .instrAddrMisaligned => 0#4
  | .instrAccessFault => 1#4
  | .illegalInstruction => 2#4
  | .breakpoint => 3#4
  | .loadAddrMisaligned => 4#4
  | .loadAccessFault => 5#4
  | .storeAddrMisaligned => 6#4
  | .storeAccessFault => 7#4
  | .ecallM => 11#4

/-- The three interrupts (R500). -/
inductive Interrupt where
  | software
  | timer
  | external
  deriving DecidableEq, Repr

/-- MCAUSE.EC of an interrupt (R500). -/
def Interrupt.code : Interrupt → BitVec 4
  | .software => 3#4
  | .timer => 7#4
  | .external => 11#4

/-- MTVEC.MODE as the hardware sees it: hardwired to 0 when SCR1_VECT_IRQ_EN is off (R40). -/
def State.mtvecModeNow (s : State) : BitVec 2 := if s.cfg.vectIrqEn then s.mtvecMode else 0#2

/-- The trap base, MTVEC & 0xFFFFFFFC (R40, R521). -/
def State.trapBase (s : State) : Word := s.cfg.mtvecBase &&& 0xFFFFFFFC#32

/-- TrapTarget (R521). MODE 2 and 3 have no defined target: a free aligned address (U8, notes/assumptions/15.md). -/
def State.trapTarget (s : State) (int : Bool) (code : BitVec 4) : Word :=
  if s.mtvecModeNow = 0#2 then s.trapBase
  else if s.mtvecModeNow = 1#2 then
    if int then s.trapBase + 4#32 * code.setWidth 32 else s.trapBase
  else s.cfg.alignPc (Config.freeTrapTarget s.freeIdx)

/-- TrapEntry(INT, code, epc, tval), for exceptions and interrupts alike (R520). -/
def State.trapEntry (s : State) (int : Bool) (code : BitVec 4) (epc tval : Word) : State :=
  { s with
    mepc := epc &&& 0xFFFFFFFE#32
    mcauseInt := int
    mcauseEc := code
    mtval := tval
    mstatusMpie := s.mstatusMie
    mstatusMie := false
    pc := s.trapTarget int code
    waiting := false }

/-- raise E(info): the instruction at the pc has no other effect (R10, R482, R515). -/
def State.raise (s : State) (e : Cause) (info : Word) : Result := .next (s.trapEntry false e.code s.pc info)

/-- An interrupt is taken at this boundary: the trap value is any value (R510, R523). -/
def State.interrupt (s : State) (i : Interrupt) : State :=
  s.trapEntry true i.code s.pc (Config.freeMtval s.freeIdx)

/-- The trap return of MRET: MIE <- MPIE, MPIE <- 1, pc <- MEPC; it completes and counts (R372, R524). -/
def State.trapReturn (s : State) : State :=
  { s with
    mstatusMie := s.mstatusMpie
    mstatusMpie := true
    pc := s.mepc &&& 0xFFFFFFFE#32
    minstret := s.retired }

/-! ## Debug-Mode (R555) -/

/-- The events that halt the hart (R555); "Hart Reset Entrance Break" is a name without a condition. -/
inductive DebugEntry where
  | halt
  | rstExit
  | sStep
  | hwBrkpt
  | brkpt
  deriving DecidableEq, Repr

/-- HART_DMODE_CAUSE after an entry: why the hart last entered Debug-Mode (R194). -/
def DebugEntry.cause : DebugEntry → DmodeCause
  | .halt => ⟨true, false, false, false, false, false⟩
  | .rstExit => ⟨false, true, false, false, false, false⟩
  | .sStep => ⟨false, false, false, true, false, false⟩
  | .hwBrkpt => ⟨false, false, false, false, true, false⟩
  | .brkpt => ⟨false, false, false, false, false, true⟩

/-- Entry to Debug-Mode: the pc stays, no trap CSR is written, MSTATUS is unchanged (R555). DESIGN CHOICE: every entry ends
the wait state, that with cause SStep after a single-stepped WFI included, so Resume goes on behind the WFI (R193, N30,
notes/assumptions/73.md). -/
def State.enterDebug (s : State) (e : DebugEntry) : State :=
  { s with
    dbgc := { s.dbgc with dmode := true, dmodeCause := e.cause, resumed := false }
    waiting := false }

/-- A breakpoint event: the Breakpoint exception, or Debug-Mode when HART_DMODE_ENBL.Brkpt redirects it
(R371, R473, R545). -/
def State.breakpointEvent (s : State) (info : Word) : Result :=
  if s.cfg.dbgcEn && s.dbgc.dmodeEnbl.brkpt then .next (s.enterDebug .brkpt) else s.raise .breakpoint info

/-- What an operation that may end the instruction gives: a state to go on from and a value, or the end. -/
inductive Attempt (α : Type) where
  | done (s : State) (v : α)
  | ended (r : Result)

end Sys2Proof.Machine
end

