-- ==== Sys2Proof/Machine/Timer.lean ====
section
/-!
DEFINITION. The timer: its five memory-mapped registers (R100 to R105), the advance of mtime (R535) and the
pending comparison (R504).
-/

namespace Sys2Proof.Machine

open Sys2Proof

/-- `v` in the low half of a 64-bit counter; the other half is unchanged (R101). -/
def setLow (d : DWord) (v : Word) : DWord := put 32 (d.extractLsb' 32 32) ||| put 0 v

/-- `v` in the high half of a 64-bit counter; the other half is unchanged (R101). -/
def setHigh (d : DWord) (v : Word) : DWord := put 32 v ||| put 0 (d.extractLsb' 0 32)

/-- The low half. -/
def lowWord (d : DWord) : Word := d.extractLsb' 0 32

/-- The high half. -/
def highWord (d : DWord) : Word := d.extractLsb' 32 32

/-- A single bit as a bit vector. -/
def bit (b : Bool) : BitVec 1 := BitVec.ofBool b

/-- MTIMECLKSET as read: (EN << 17) | (CLKSEL << 16) | COEF (R103). -/
def Timer.clkset (t : Timer) : Word := put 17 (bit t.en) ||| put 16 (bit t.clksel) ||| put 0 t.coef

/-- TimerRead(off) (R105). -/
def Timer.read (t : Timer) (off : Nat) : Word :=
  if off = 0 then lowWord t.mtime
  else if off = 4 then highWord t.mtime
  else if off = 8 then lowWord t.mtimecmp
  else if off = 12 then highWord t.mtimecmp
  else t.clkset

/-- A phase the divider can be in: 0 .. COEF - 1 (R56, U20). -/
def Timer.legalPhase (coef : Half) (free : Nat) : Nat := free % max coef.toNat 1

/-- The phase after a write to MTIME[H] or MTIMECLKSET is any legal one (U20, notes/assumptions/11.md). -/
def Timer.disturb (t : Timer) (free : Nat) : Timer := { t with phase := Timer.legalPhase t.coef free }

/-- TimerWrite(off, v) (R105). -/
def Timer.write (t : Timer) (off : Nat) (v : Word) (free : Nat) : Timer :=
  if off = 0 then { t with mtime := setLow t.mtime v }.disturb free
  else if off = 4 then { t with mtime := setHigh t.mtime v }.disturb free
  else if off = 8 then { t with mtimecmp := setLow t.mtimecmp v }
  else if off = 12 then { t with mtimecmp := setHigh t.mtimecmp v }
  else { t with coef := v.extractLsb' 0 16, clksel := v.getLsbD 16, en := v.getLsbD 17 }.disturb free

/-- One rising edge of the selected clock with EN = 1 and COEF >= 1 (R535). -/
def Timer.edge (t : Timer) : Timer :=
  if t.coef.toNat ≤ t.phase + 1 then { t with phase := 0, mtime := t.mtime + 1#64 }
  else { t with phase := t.phase + 1 }

/-- `n` rising edges (R535). -/
def Timer.edges (t : Timer) : Nat → Timer
  | 0 => t
  | n + 1 => t.edge.edges n

/-- `n` ticks of the selected clock: nothing while EN = 0; while COEF = 0 any advance (R535, U29). -/
def Timer.tick (t : Timer) (n free : Nat) : Timer :=
  if !t.en then t
  else if t.coef = 0#16 then { t with mtime := t.mtime + BitVec.ofNat 64 free }
  else t.edges n

/-- MIP.MTIP: mtime >= mtimecmp, unsigned, whatever EN is (R504). -/
def Timer.pending (t : Timer) : Bool := decide (t.mtimecmp.toNat ≤ t.mtime.toNat)

end Sys2Proof.Machine
end

