-- ==== Sys2Proof/Machine/Brkm.lean ====
section
/-!
DEFINITION. The breakpoint module: its register views and writes (R140 to R149), the match of an access (R545, R546)
and what a match does.
-/

namespace Sys2Proof.Machine

open Sys2Proof

/-! ## Registers of one breakpoint (R141 to R146) -/

/-- BPCONTROL as read (R141). -/
def Breakpoint.readControl (b : Breakpoint) (sup : BpSupport) : Word :=
  put 26 (bit sup.load) ||| put 25 (bit sup.store) ||| put 24 (bit sup.exec) ||| put 23 (bit sup.a)
    ||| put 21 (bit sup.amask) ||| put 15 (bit b.matched) ||| put 12 b.action ||| put 10 (bit b.loaden)
    ||| put 9 (bit b.storeen) ||| put 8 (bit b.execen) ||| put 7 (bit b.aen) ||| put 5 (bit b.amasken)

/-- BPCTRLEXT as read (R146). -/
def Breakpoint.readExt (b : Breakpoint) : Word := put 14 (bit b.amaskext) ||| put 13 (bit b.dryrun)

/-- An enable bit takes the written bit; written 1 without support it is a free value (R141, U15). -/
def enableBit (sup written free : Bool) : Bool := if sup || !written then written else free

/-- BPCONTROL.MATCHED after a write of bit `w`, by BRKMCTRL.MODE (R141). -/
def matchedAfter (mode old w : Bool) : Bool := if mode then old && !w else w

/-- Write of BPCONTROL (R141). -/
def Breakpoint.writeControl (b : Breakpoint) (sup : BpSupport) (mode : Bool) (v : Word) (idx : Nat) : Breakpoint :=
  { b with
    amasken := enableBit sup.amask (v.getLsbD 5) (Config.freeEnableBit idx 5)
    aen := enableBit sup.a (v.getLsbD 7) (Config.freeEnableBit idx 7)
    execen := enableBit sup.exec (v.getLsbD 8) (Config.freeEnableBit idx 8)
    storeen := enableBit sup.store (v.getLsbD 9) (Config.freeEnableBit idx 9)
    loaden := enableBit sup.load (v.getLsbD 10) (Config.freeEnableBit idx 10)
    action := v.extractLsb' 12 3
    matched := matchedAfter mode b.matched (v.getLsbD 15) }

/-- Write of BPCTRLEXT (R146); AMASKEXT_EN extends address mask matching, whose support bit is AMASKSUP (U15). -/
def Breakpoint.writeExt (b : Breakpoint) (sup : BpSupport) (v : Word) (idx : Nat) : Breakpoint :=
  { b with
    dryrun := v.getLsbD 13
    amaskext := enableBit sup.amask (v.getLsbD 14) (Config.freeEnableBit idx 14) }

/-! ## Registers of the module -/

/-- BPSELECT after a write: the implemented low bits (R140). -/
def selectAfter (width : Nat) (v : Word) : BitVec 12 := BitVec.ofNat 12 (v.toNat % 2 ^ width)

/-- BRKMCTRL.MATCHED: some breakpoint's MATCHED (R149). -/
def Brkm.anyMatched (m : Brkm) : Bool := m.bps.any (fun b => b.matched)

/-- BRKMCTRL as read; INIT reads a free value (R149, U18). -/
def Brkm.readCtrl (m : Brkm) (init : Bool) : Word :=
  put 16 (bit m.mode) ||| put 15 (bit init) ||| put 14 (bit m.bpISkip) ||| put 12 (bit m.anyMatched)

/-- Write of BRKMCTRL: a written INIT initialises the skip mechanism (R149). -/
def Brkm.writeCtrl (m : Brkm) (v : Word) : Brkm :=
  { m with
    bpISkip := v.getLsbD 14
    skipArmed := m.skipArmed || v.getLsbD 15
    mode := v.getLsbD 16 }

/-- The selected breakpoint (R140). -/
def Brkm.selected (m : Brkm) : Option Breakpoint := m.bps[m.bpselect.toNat]?

/-- The selected breakpoint replaced. -/
def Brkm.setSelected (m : Brkm) (b : Breakpoint) : Brkm := { m with bps := m.bps.set m.bpselect.toNat b }

/-! ## Matching (R545, R546) -/

/-- The accesses the module examines (R545). -/
inductive BpKind where
  | exec
  | load
  | store
  deriving DecidableEq, Repr

/-- (address & BPHIADDR) == BPLOADDR (R545). -/
def Breakpoint.maskHit (b : Breakpoint) (a : Word) : Bool := (a &&& b.hiAddr) == b.loAddr

/-- Some byte `a + i`, i < n, meets the mask condition (R546). -/
def Breakpoint.anyMaskHit (b : Breakpoint) (a : Word) : Nat → Bool
  | 0 => false
  | n + 1 => b.anyMaskHit a n || b.maskHit (a + BitVec.ofNat 32 n)

/-- The mask term of an access of `n` bytes: the base address, or every byte with AMASKEXT_EN (R546). -/
def Breakpoint.maskTerm (b : Breakpoint) (a : Word) (n : Nat) : Bool :=
  if b.amaskext then b.anyMaskHit a n else b.maskHit a

/-- The mask term of a fetch, whose size is not known: the base address, and with AMASKEXT_EN possibly the bytes
after it (R546, U31). -/
def Breakpoint.execMaskTerm (b : Breakpoint) (a : Word) (free : Bool) : Bool :=
  b.maskHit a || (b.amaskext && b.anyMaskHit (a + 1#32) 3 && free)

/-- amatch (R545). -/
def Breakpoint.amatch (b : Breakpoint) (a : Word) (mask : Bool) : Bool :=
  (!b.aen && !b.amasken) || (b.aen && a == b.loAddr) || (b.amasken && mask)

/-- omatch (R545). -/
def Breakpoint.omatch (b : Breakpoint) : BpKind → Bool
  | .exec => b.execen
  | .load => b.loaden
  | .store => b.storeen

/-- match: dmatch is always true (R545). `free` is used for a fetch only. -/
def Breakpoint.hit (b : Breakpoint) (k : BpKind) (a : Word) (n : Nat) (free : Bool) : Bool :=
  b.omatch k && b.amatch a (match k with
    | .exec => b.execMaskTerm a free
    | .load => b.maskTerm a n
    | .store => b.maskTerm a n)

/-- Which breakpoints match, from breakpoint number `i` on. -/
def hitsFrom (k : BpKind) (a : Word) (n idx : Nat) : Nat → List Breakpoint → List Bool
  | _, [] => []
  | i, b :: rest => b.hit k a n (Config.freeExecMaskHit idx i) :: hitsFrom k a n idx (i + 1) rest

/-- MATCHED is set by a match with ACTION 1 or 2, or with ACTION 0 and DRYRUN (R545). -/
def Breakpoint.mark (b : Breakpoint) (hit : Bool) : Breakpoint :=
  if hit && (b.action == 1#3 || b.action == 2#3 || (b.action == 0#3 && b.dryrun)) then
    { b with matched := true }
  else b

/-- What a match asks for, by ACTION (R545). -/
inductive BpAction where
  | nothing
  | exception
  | debug
  /-- ACTION 3..7 (U16) -/
  | reserved
  deriving DecidableEq, Repr

/-- The action of one breakpoint. -/
def Breakpoint.act (b : Breakpoint) (hit : Bool) : BpAction :=
  if !hit || b.action == 0#3 then .nothing
  else if b.action == 1#3 then .exception
  else if b.action == 2#3 then .debug
  else .reserved

/-- The stronger of two actions: Debug-Mode over exception over nothing (R545); a reserved action leaves the
outcome unstated. -/
def BpAction.stronger : BpAction → BpAction → BpAction
  | .reserved, _ => .reserved
  | _, .reserved => .reserved
  | .debug, _ => .debug
  | _, .debug => .debug
  | .exception, _ => .exception
  | .nothing, y => y

/-- The strongest action of the matches. -/
def strongest : List Breakpoint → List Bool → BpAction
  | b :: bs, h :: hs => (b.act h).stronger (strongest bs hs)
  | _, _ => .nothing

/-- The breakpoints with their MATCHED bits after the access. -/
def markAll : List Breakpoint → List Bool → List Breakpoint
  | b :: bs, h :: hs => b.mark h :: markAll bs hs
  | bs, _ => bs

/-- The matches of an access in a state. -/
def State.bpHits (s : State) (k : BpKind) (a : Word) (n : Nat) : List Bool :=
  hitsFrom k a n s.freeIdx 0 s.brkm.bps

/-- The state with the MATCHED bits of these matches set. -/
def State.marked (s : State) (hits : List Bool) : State :=
  { s with brkm := { s.brkm with bps := markAll s.brkm.bps hits } }

/-- What a set of matches at address `a` does to the instruction (R545). -/
def State.bpReact (s : State) (hits : List Bool) (a : Word) : Attempt Unit :=
  match strongest s.brkm.bps hits with
  | .nothing => .done (s.marked hits) ()
  | .exception => .ended ((s.marked hits).breakpointEvent a)
  | .debug => .ended (.next ((s.marked hits).enterDebug .hwBrkpt))
  | .reserved => .ended (.refused .reservedBreakpointAction)

/-- No breakpoint matches the access, or there is no BRKM. -/
def State.bpQuiet (s : State) (k : BpKind) (a : Word) (n : Nat) : Bool :=
  !s.cfg.brkmEn || !(s.bpHits k a n).any id

/-- The kind of a data access, as the module sees it. -/
def bpKindOf : AccessKind → BpKind
  | .load => .load
  | .store => .store

/-- The check of a load or store of `n` bytes at `a` (R243 step 1, R244 step 1). -/
def State.bpCheckData (s : State) (k : AccessKind) (a : Word) (n : Nat) : Attempt Unit :=
  if s.bpQuiet (bpKindOf k) a n then .done s () else s.bpReact (s.bpHits (bpKindOf k) a n) a

/-- The skip mechanism spends its arming; whether the match still shows is free (U19). -/
def State.bpSkipped (s : State) (hits : List Bool) : State :=
  let t := if Config.freeSkipMatched s.freeIdx then s.marked hits else s
  { t with brkm := { t.brkm with skipArmed := false } }

/-- The check of the instruction at the pc (R515 step 5). With BP_I_SKIP set the match may be skipped (U19). DESIGN CHOICE:
only a match that would act is skipped, and one whose strongest action is 0 always sets its MATCHED bits with DRYRUN (R149,
notes/assumptions/71.md). -/
def State.bpCheckExec (s : State) : Attempt Unit :=
  if s.bpQuiet .exec s.pc 1 then .done s ()
  else if s.brkm.bpISkip && strongest s.brkm.bps (s.bpHits .exec s.pc 1) != .nothing
      && Config.freeSkip s.freeIdx s.brkm.skipArmed then
    .done (s.bpSkipped (s.bpHits .exec s.pc 1)) ()
  else s.bpReact (s.bpHits .exec s.pc 1) s.pc

end Sys2Proof.Machine
end

