-- ==== Sys2Proof/Machine/Operands.lean ====
section
/-!
DEFINITION. Operand forms: the immediates as 32-bit values (R262, R273), the primed registers (R272), the
effective address (R224), the shift amount of a register (R314), and the widening of a loaded value (R350).
-/

namespace Sys2Proof.Machine

open Sys2Proof

/-- sext_n: the immediate sign-extended to 32 bits (R10). -/
def sext {n : Nat} (v : BitVec n) : Word := v.signExtend 32

/-- zext_n: the immediate zero-extended to 32 bits (R10). -/
def zext {n : Nat} (v : BitVec n) : Word := v.setWidth 32

/-- The U immediate: the field in bits 31..12 and zeros below (R262). -/
def upperImm (v : BitVec 20) : Word := put 12 v

/-- C.LUI's value: sext_6(inst[12] ++ inst[6:2]) << 12 (R273, R429). -/
def upperImmC (v : BitVec 6) : Word := sext v <<< 12

/-- A primed register field names register 8 + field (R272). -/
def primed (f : CReg) : Reg := 8#5 + f.setWidth 5

/-- addr = (x[rs1] + imm) mod 2^32 (R224). -/
def State.effAddr (s : State) (rs1 : Reg) (imm : Word) : Word := s.reg rs1 + imm

/-- The shift amount in a register: its low five bits (R314). -/
def shiftAmount (v : Word) : Nat := (v &&& 31#32).toNat

/-- How a load widens the value it read (R350). -/
inductive Widen where
  /-- sext_8 of the byte -/
  | signedByte
  /-- sext_16 of the halfword -/
  | signedHalf
  /-- the value as it is, zero-extended -/
  | unsigned
  deriving DecidableEq, Repr

/-- extend(v) (R350). -/
def Widen.apply : Widen → Word → Word
  | .signedByte, v => sext (v.extractLsb' 0 8)
  | .signedHalf, v => sext (v.extractLsb' 0 16)
  | .unsigned, v => v

end Sys2Proof.Machine
end

