-- ==== Sys2Proof/Machine/Access.lean ====
section
/-!
DEFINITION. Access to data memory: where an address leads (R230, R243, R244), MemRead and MemWrite, and the shared
body of the loads and stores (R350, R356).
-/

namespace Sys2Proof.Machine

open Sys2Proof

/-- Where a data access leads (R243, R244). -/
inductive Place where
  /-- the address is not a multiple of the access size: the access is not performed (R223) -/
  | misaligned
  /-- the data bus answers with an error, or the timer window gets a byte or halfword access (R104, R240) -/
  | noAnswer
  /-- the timer register at this offset (R105) -/
  | timer (off : Nat)
  /-- the timer window's offsets without a register (R104, U21) -/
  | timerHole
  /-- the TCM at this offset (R237) -/
  | tcm (off : Nat)
  /-- the TCM window at or beyond TCM_SIZE (R237, U22) -/
  | tcmBeyond
  /-- a device of the platform (R239) -/
  | device
  /-- external memory at this address (R239) -/
  | ext (a : Nat)
  deriving DecidableEq, Repr

/-- The address is not a multiple of the access size `n` in {1, 2, 4} (R223). -/
def misaligned (a : Word) (n : Nat) : Bool := a.toNat % n != 0

/-- The timer window's five registers (R100). -/
def timerRegister (off : Nat) : Bool := off == 0 || off == 4 || off == 8 || off == 12 || off == 16

/-- Steps 2 to 6 of MemRead and MemWrite: alignment first, then the timer window, the TCM window, the bus
(R243, R244). -/
def dataPlace (c : Config) (k : AccessKind) (a : Word) (n : Nat) : Place :=
  if misaligned a n then .misaligned
  else if c.inTimer a then
    if n ≠ 4 then .noAnswer
    else if timerRegister (c.timerOffset a) then .timer (c.timerOffset a)
    else .timerHole
  else if c.inTcm a then
    if c.tcmOffset a + n ≤ c.tcmSize then .tcm (c.tcmOffset a) else .tcmBeyond
  else if !c.dataAccessible a.toNat n k then .noAnswer
  else if c.isDevice a.toNat n then .device
  else .ext a.toNat

/-- MemRead(a, n) (R243); the trap value is the effective address (R523). -/
def State.memRead (s : State) (a : Word) (n : Nat) : Attempt Word :=
  match s.bpCheckData .load a n with
  | .ended r => .ended r
  | .done t _ =>
    match dataPlace t.cfg .load a n with
    | .misaligned => .ended (t.raise .loadAddrMisaligned a)
    | .noAnswer => .ended (t.raise .loadAccessFault a)
    | .timer off => .done t (t.timer.read off)
    | .timerHole => .ended (.fault .timerReservedOffset)
    | .tcm off => .done t (readLE (t.byte .tcm) off n)
    | .tcmBeyond => .ended (.fault .tcmBeyondSize)
    | .device => .ended (.refused .deviceAccess)
    | .ext e => .done t (readLE (t.byte .ext) e n)

/-- The store into the TCM. -/
def State.storeTcm (s : State) (off n : Nat) (v : Word) : State :=
  { s with tcm := Memory.storeLE s.tcm off n v }

/-- The store into external memory. -/
def State.storeExt (s : State) (a n : Nat) (v : Word) : State :=
  { s with ext := Memory.storeLE s.ext a n v }

/-- The store into a timer register (R105). -/
def State.storeTimer (s : State) (off : Nat) (v : Word) : State :=
  { s with timer := s.timer.write off v (Config.freePhase s.freeIdx) }

/-- MemWrite(a, n, v) (R244). -/
def State.memWrite (s : State) (a : Word) (n : Nat) (v : Word) : Attempt Unit :=
  match s.bpCheckData .store a n with
  | .ended r => .ended r
  | .done t _ =>
    match dataPlace t.cfg .store a n with
    | .misaligned => .ended (t.raise .storeAddrMisaligned a)
    | .noAnswer => .ended (t.raise .storeAccessFault a)
    | .timer off => .done (t.storeTimer off v) ()
    | .timerHole => .ended (.fault .timerReservedOffset)
    | .tcm off => .done (t.storeTcm off n v) ()
    | .tcmBeyond => .ended (.fault .tcmBeyondSize)
    | .device => .ended (.refused .deviceAccess)
    | .ext e => .done (t.storeExt e n v) ()

/-- A load of `n` bytes at `a` into `rd`, the next instruction `len` bytes on (R350). -/
def State.load (s : State) (rd : Reg) (a : Word) (n : Nat) (w : Widen) (len : Word) : Result :=
  match s.memRead a n with
  | .ended r => r
  | .done t v => t.finish rd (w.apply v) len

/-- A store of the low `n` bytes of `v` at `a`, the next instruction `len` bytes on (R356). -/
def State.store (s : State) (a : Word) (n : Nat) (v : Word) (len : Word) : Result :=
  match s.memWrite a n v with
  | .ended r => r
  | .done t _ => .next (t.complete len)

end Sys2Proof.Machine
end

