-- ==== Sys2Proof/Machine/Flags.lean ====
section
/-!
DEFINITION. The core has no condition codes, carry or overflow bits and no flag register (R27): no instruction
writes a flag. What stands in their place is the comparison, whose answer goes into a general register or decides a
branch.
-/

namespace Sys2Proof.Machine

open Sys2Proof

/-- s(a) < s(b) (R304, R315, R336). -/
def ltSigned (a b : Word) : Bool := decide (a.toInt < b.toInt)

/-- u(a) < u(b) (R305, R316, R338). -/
def ltUnsigned (a b : Word) : Bool := decide (a.toNat < b.toNat)

/-- The truth value as a register value: exactly 0 or 1 in all 32 bits (R304). -/
def boolWord (b : Bool) : Word := if b then 1#32 else 0#32

end Sys2Proof.Machine
end

