-- ==== Sys2Proof/Machine/Control.lean ====
section
/-!
DEFINITION. The control transfer instructions (spec/41_rv32i_control.md).
-/

namespace Sys2Proof.Machine

open Sys2Proof

/-- The target of a jump or taken branch is not aligned as R226 requires: without the C extension, bit 1 is set
(R330). -/
def State.misalignedTarget (s : State) (target : Word) : Bool := !s.cfg.rvc && target.getLsbD 1

/-- Jump to `target` with `link` in `rd` (R331, R332). -/
def State.jumpLink (s : State) (rd : Reg) (target link : Word) : Result :=
  .next ((s.setReg rd link).jumpTo target)

/-- The same with the alignment check: the jump itself raises, and rd is not written (R330). -/
def State.jumpChecked (s : State) (rd : Reg) (target link : Word) : Result :=
  if s.misalignedTarget target then s.raise .instrAddrMisaligned target else s.jumpLink rd target link

/-- A conditional branch: only a taken one checks its target (R330, R333). -/
def State.branch (s : State) (taken : Bool) (target : Word) : Result :=
  if taken then
    if s.misalignedTarget target then s.raise .instrAddrMisaligned target else .next (s.jumpTo target)
  else .next (s.complete 4#32)

/-- A compressed conditional branch, whose target is always aligned (R438, R439). -/
def State.branchC (s : State) (taken : Bool) (target : Word) : Result :=
  .next (if taken then s.jumpTo target else s.complete 2#32)

/-- The target of JALR and its compressed forms: bit 0 of the sum is cleared (R331). -/
def State.indirectTarget (s : State) (rs1 : Reg) (imm : Word) : Word := (s.reg rs1 + imm) &&& 0xFFFFFFFE#32

/-- JAL (R332). -/
def execJal (rd : Reg) (imm : BitVec 21) (s : State) : Result := s.jumpChecked rd (s.pc + sext imm) (s.pc + 4#32)

/-- JALR: rs1 is read before rd is written (R331). -/
def execJalr (rd rs1 : Reg) (imm : BitVec 12) (s : State) : Result :=
  s.jumpChecked rd (s.indirectTarget rs1 (sext imm)) (s.pc + 4#32)

/-- BEQ (R334). -/
def execBeq (rs1 rs2 : Reg) (imm : BitVec 13) (s : State) : Result :=
  s.branch (s.reg rs1 == s.reg rs2) (s.pc + sext imm)

/-- BNE (R335). -/
def execBne (rs1 rs2 : Reg) (imm : BitVec 13) (s : State) : Result :=
  s.branch (s.reg rs1 != s.reg rs2) (s.pc + sext imm)

/-- BLT (R336). -/
def execBlt (rs1 rs2 : Reg) (imm : BitVec 13) (s : State) : Result :=
  s.branch (ltSigned (s.reg rs1) (s.reg rs2)) (s.pc + sext imm)

/-- BGE (R337). -/
def execBge (rs1 rs2 : Reg) (imm : BitVec 13) (s : State) : Result :=
  s.branch (!ltSigned (s.reg rs1) (s.reg rs2)) (s.pc + sext imm)

/-- BLTU (R338). -/
def execBltu (rs1 rs2 : Reg) (imm : BitVec 13) (s : State) : Result :=
  s.branch (ltUnsigned (s.reg rs1) (s.reg rs2)) (s.pc + sext imm)

/-- BGEU (R339). -/
def execBgeu (rs1 rs2 : Reg) (imm : BitVec 13) (s : State) : Result :=
  s.branch (!ltUnsigned (s.reg rs1) (s.reg rs2)) (s.pc + sext imm)

end Sys2Proof.Machine
end

