-- ==== Sys2Proof/Machine/Compressed.lean ====
section
/-!
DEFINITION. The compressed instructions (spec/45_rvc.md): each does what its expansion does (R450),
with the pc advance and the link of a 2-byte instruction (R420).
-/

namespace Sys2Proof.Machine

open Sys2Proof

/-- The defined illegal instruction: raise IllegalInstruction(0) (R449). -/
def execCIllegal (s : State) : Result :=
  s.raise .illegalInstruction 0#32

/-- C.ADDI4SPN: addi R(rd), x2, nzuimm (R421). -/
def execCAddi4spn (rd : CReg) (imm : BitVec 10) (s : State) : Result :=
  s.finish (primed rd) (s.reg 2#5 + zext imm) 2#32

/-- C.LW: lw R(rd), uimm(R(rs1)) (R422). -/
def execCLw (rd rs1 : CReg) (imm : BitVec 7) (s : State) : Result :=
  s.load (primed rd) (s.effAddr (primed rs1) (zext imm)) 4 .unsigned 2#32

/-- C.SW: sw R(rs2), uimm(R(rs1)) (R423). -/
def execCSw (rs1 rs2 : CReg) (imm : BitVec 7) (s : State) : Result :=
  s.store (s.effAddr (primed rs1) (zext imm)) 4 (s.reg (primed rs2)) 2#32

/-- C.NOP (R424). -/
def execCNop (s : State) : Result :=
  .next (s.complete 2#32)

/-- C.ADDI: addi rd, rd, nzimm (R425). -/
def execCAddi (rd : Reg) (imm : BitVec 6) (s : State) : Result :=
  s.finish rd (s.reg rd + sext imm) 2#32

/-- C.JAL: jal x1, offset, with the link pc + 2 (R426). -/
def execCJal (imm : BitVec 12) (s : State) : Result :=
  s.jumpLink 1#5 (s.pc + sext imm) (s.pc + 2#32)

/-- C.LI: addi rd, x0, imm (R427). -/
def execCLi (rd : Reg) (imm : BitVec 6) (s : State) : Result :=
  s.finish rd (sext imm) 2#32

/-- C.ADDI16SP: addi x2, x2, nzimm (R428). -/
def execCAddi16sp (imm : BitVec 10) (s : State) : Result :=
  s.finish 2#5 (s.reg 2#5 + sext imm) 2#32

/-- C.LUI: x[rd] <- sext_6(field) << 12 (R429). -/
def execCLui (rd : Reg) (imm : BitVec 6) (s : State) : Result :=
  s.finish rd (upperImmC imm) 2#32

/-- The end of a compressed shift whose expansion gives `v`. A shift amount of 0 is not defined (R282 point 4, U27,
notes/assumptions/41.md). -/
def State.finishShiftC (s : State) (rd : Reg) (shamt : BitVec 5) (v : Word) : Result :=
  if shamt = 0#5 then .refused .compressedShiftByZero else s.finish rd v 2#32

/-- C.SRLI: srli R(rd), R(rd), shamt (R430). -/
def execCSrli (rd : CReg) (shamt : BitVec 5) (s : State) : Result :=
  s.finishShiftC (primed rd) shamt (s.reg (primed rd) >>> shamt.toNat)

/-- C.SRAI: srai R(rd), R(rd), shamt (R431). -/
def execCSrai (rd : CReg) (shamt : BitVec 5) (s : State) : Result :=
  s.finishShiftC (primed rd) shamt ((s.reg (primed rd)).sshiftRight shamt.toNat)

/-- C.ANDI: andi R(rd), R(rd), imm (R432). -/
def execCAndi (rd : CReg) (imm : BitVec 6) (s : State) : Result :=
  s.finish (primed rd) (s.reg (primed rd) &&& sext imm) 2#32

/-- C.SUB: sub R(rd), R(rd), R(rs2) (R433). -/
def execCSub (rd rs2 : CReg) (s : State) : Result :=
  s.finish (primed rd) (s.reg (primed rd) - s.reg (primed rs2)) 2#32

/-- C.XOR: xor R(rd), R(rd), R(rs2) (R434). -/
def execCXor (rd rs2 : CReg) (s : State) : Result :=
  s.finish (primed rd) (s.reg (primed rd) ^^^ s.reg (primed rs2)) 2#32

/-- C.OR: or R(rd), R(rd), R(rs2) (R435). -/
def execCOr (rd rs2 : CReg) (s : State) : Result :=
  s.finish (primed rd) (s.reg (primed rd) ||| s.reg (primed rs2)) 2#32

/-- C.AND: and R(rd), R(rd), R(rs2) (R436). -/
def execCAnd (rd rs2 : CReg) (s : State) : Result :=
  s.finish (primed rd) (s.reg (primed rd) &&& s.reg (primed rs2)) 2#32

/-- C.J: jal x0, offset (R437). -/
def execCJ (imm : BitVec 12) (s : State) : Result :=
  .next (s.jumpTo (s.pc + sext imm))

/-- C.BEQZ: beq R(rs1), x0, offset, else pc + 2 (R438). -/
def execCBeqz (rs1 : CReg) (imm : BitVec 9) (s : State) : Result :=
  s.branchC (s.reg (primed rs1) == 0#32) (s.pc + sext imm)

/-- C.BNEZ: bne R(rs1), x0, offset, else pc + 2 (R439). -/
def execCBnez (rs1 : CReg) (imm : BitVec 9) (s : State) : Result :=
  s.branchC (s.reg (primed rs1) != 0#32) (s.pc + sext imm)

/-- C.SLLI: slli rd, rd, shamt (R440). -/
def execCSlli (rd : Reg) (shamt : BitVec 5) (s : State) : Result :=
  s.finishShiftC rd shamt (s.reg rd <<< shamt.toNat)

/-- C.LWSP: lw rd, uimm(x2) (R441). -/
def execCLwsp (rd : Reg) (imm : BitVec 8) (s : State) : Result :=
  s.load rd (s.effAddr 2#5 (zext imm)) 4 .unsigned 2#32

/-- C.JR: jalr x0, 0(rs1) (R442). -/
def execCJr (rs1 : Reg) (s : State) : Result :=
  .next (s.jumpTo (s.indirectTarget rs1 0#32))

/-- C.MV: add rd, x0, rs2 (R443). -/
def execCMv (rd rs2 : Reg) (s : State) : Result :=
  s.finish rd (s.reg rs2) 2#32

/-- C.EBREAK, as EBREAK (R447). -/
def execCEbreak (s : State) : Result :=
  s.breakpointEvent (Config.freeMtval s.freeIdx)

/-- C.JALR: jalr x1, 0(rs1), with the link pc + 2 (R445). -/
def execCJalr (rs1 : Reg) (s : State) : Result :=
  s.jumpLink 1#5 (s.indirectTarget rs1 0#32) (s.pc + 2#32)

/-- C.ADD: add rd, rd, rs2 (R446). -/
def execCAdd (rd rs2 : Reg) (s : State) : Result :=
  s.finish rd (s.reg rd + s.reg rs2) 2#32

/-- C.SWSP: sw rs2, uimm(x2) (R448). -/
def execCSwsp (rs2 : Reg) (imm : BitVec 8) (s : State) : Result :=
  s.store (s.effAddr 2#5 (zext imm)) 4 (s.reg rs2) 2#32

end Sys2Proof.Machine
end

