-- ==== Sys2Proof/Machine/Integer.lean ====
section
/-!
DEFINITION. The integer computational instructions (spec/40_rv32i_integer.md).
-/

namespace Sys2Proof.Machine

open Sys2Proof

/-- LUI: x[rd] <- inst[31:12] ++ 0x000 (R301). -/
def execLui (rd : Reg) (imm : BitVec 20) (s : State) : Result := s.finish rd (upperImm imm) 4#32

/-- AUIPC: x[rd] <- pc + (inst[31:12] ++ 0x000) (R302). -/
def execAuipc (rd : Reg) (imm : BitVec 20) (s : State) : Result := s.finish rd (s.pc + upperImm imm) 4#32

/-- ADDI: x[rd] <- x[rs1] + imm (R303). -/
def execAddi (rd rs1 : Reg) (imm : BitVec 12) (s : State) : Result :=
  s.finish rd (s.reg rs1 + sext imm) 4#32

/-- SLTI: x[rd] <- s(x[rs1]) < s(imm) (R304). -/
def execSlti (rd rs1 : Reg) (imm : BitVec 12) (s : State) : Result :=
  s.finish rd (boolWord (ltSigned (s.reg rs1) (sext imm))) 4#32

/-- SLTIU: x[rd] <- u(x[rs1]) < u(imm), imm sign-extended first (R305). -/
def execSltiu (rd rs1 : Reg) (imm : BitVec 12) (s : State) : Result :=
  s.finish rd (boolWord (ltUnsigned (s.reg rs1) (sext imm))) 4#32

/-- XORI: x[rd] <- x[rs1] ^ imm (R306). -/
def execXori (rd rs1 : Reg) (imm : BitVec 12) (s : State) : Result :=
  s.finish rd (s.reg rs1 ^^^ sext imm) 4#32

/-- ORI: x[rd] <- x[rs1] | imm (R307). -/
def execOri (rd rs1 : Reg) (imm : BitVec 12) (s : State) : Result :=
  s.finish rd (s.reg rs1 ||| sext imm) 4#32

/-- ANDI: x[rd] <- x[rs1] & imm (R308). -/
def execAndi (rd rs1 : Reg) (imm : BitVec 12) (s : State) : Result :=
  s.finish rd (s.reg rs1 &&& sext imm) 4#32

/-- SLLI: x[rd] <- x[rs1] << shamt (R309). -/
def execSlli (rd rs1 : Reg) (shamt : BitVec 5) (s : State) : Result :=
  s.finish rd (s.reg rs1 <<< shamt.toNat) 4#32

/-- SRLI: x[rd] <- x[rs1] >>u shamt (R310). -/
def execSrli (rd rs1 : Reg) (shamt : BitVec 5) (s : State) : Result :=
  s.finish rd (s.reg rs1 >>> shamt.toNat) 4#32

/-- SRAI: x[rd] <- x[rs1] >>s shamt (R311). -/
def execSrai (rd rs1 : Reg) (shamt : BitVec 5) (s : State) : Result :=
  s.finish rd ((s.reg rs1).sshiftRight shamt.toNat) 4#32

/-- ADD: x[rd] <- x[rs1] + x[rs2] (R312). -/
def execAdd (rd rs1 rs2 : Reg) (s : State) : Result :=
  s.finish rd (s.reg rs1 + s.reg rs2) 4#32

/-- SUB: x[rd] <- x[rs1] - x[rs2] (R313). -/
def execSub (rd rs1 rs2 : Reg) (s : State) : Result :=
  s.finish rd (s.reg rs1 - s.reg rs2) 4#32

/-- SLL: x[rd] <- x[rs1] << (x[rs2] & 31) (R314). -/
def execSll (rd rs1 rs2 : Reg) (s : State) : Result :=
  s.finish rd (s.reg rs1 <<< shiftAmount (s.reg rs2)) 4#32

/-- SLT: x[rd] <- s(x[rs1]) < s(x[rs2]) (R315). -/
def execSlt (rd rs1 rs2 : Reg) (s : State) : Result :=
  s.finish rd (boolWord (ltSigned (s.reg rs1) (s.reg rs2))) 4#32

/-- SLTU: x[rd] <- u(x[rs1]) < u(x[rs2]) (R316). -/
def execSltu (rd rs1 rs2 : Reg) (s : State) : Result :=
  s.finish rd (boolWord (ltUnsigned (s.reg rs1) (s.reg rs2))) 4#32

/-- XOR: x[rd] <- x[rs1] ^ x[rs2] (R317). -/
def execXor (rd rs1 rs2 : Reg) (s : State) : Result :=
  s.finish rd (s.reg rs1 ^^^ s.reg rs2) 4#32

/-- SRL: x[rd] <- x[rs1] >>u (x[rs2] & 31) (R318). -/
def execSrl (rd rs1 rs2 : Reg) (s : State) : Result :=
  s.finish rd (s.reg rs1 >>> shiftAmount (s.reg rs2)) 4#32

/-- SRA: x[rd] <- x[rs1] >>s (x[rs2] & 31) (R319). -/
def execSra (rd rs1 rs2 : Reg) (s : State) : Result :=
  s.finish rd ((s.reg rs1).sshiftRight (shiftAmount (s.reg rs2))) 4#32

/-- OR: x[rd] <- x[rs1] | x[rs2] (R320). -/
def execOr (rd rs1 rs2 : Reg) (s : State) : Result :=
  s.finish rd (s.reg rs1 ||| s.reg rs2) 4#32

/-- AND: x[rd] <- x[rs1] & x[rs2] (R321). -/
def execAnd (rd rs1 rs2 : Reg) (s : State) : Result :=
  s.finish rd (s.reg rs1 &&& s.reg rs2) 4#32

end Sys2Proof.Machine
end

