-- ==== Sys2Proof/Machine/LoadStore.lean ====
section
/-!
DEFINITION. The loads, the stores and the fences (spec/42_rv32i_loadstore.md).
-/

namespace Sys2Proof.Machine

open Sys2Proof

/-- LB (R351). -/
def execLb (rd rs1 : Reg) (imm : BitVec 12) (s : State) : Result :=
  s.load rd (s.effAddr rs1 (sext imm)) 1 .signedByte 4#32

/-- LH (R352). -/
def execLh (rd rs1 : Reg) (imm : BitVec 12) (s : State) : Result :=
  s.load rd (s.effAddr rs1 (sext imm)) 2 .signedHalf 4#32

/-- LW (R353). -/
def execLw (rd rs1 : Reg) (imm : BitVec 12) (s : State) : Result :=
  s.load rd (s.effAddr rs1 (sext imm)) 4 .unsigned 4#32

/-- LBU (R354). -/
def execLbu (rd rs1 : Reg) (imm : BitVec 12) (s : State) : Result :=
  s.load rd (s.effAddr rs1 (sext imm)) 1 .unsigned 4#32

/-- LHU (R355). -/
def execLhu (rd rs1 : Reg) (imm : BitVec 12) (s : State) : Result :=
  s.load rd (s.effAddr rs1 (sext imm)) 2 .unsigned 4#32

/-- SB (R357). -/
def execSb (rs1 rs2 : Reg) (imm : BitVec 12) (s : State) : Result :=
  s.store (s.effAddr rs1 (sext imm)) 1 (s.reg rs2) 4#32

/-- SH (R358). -/
def execSh (rs1 rs2 : Reg) (imm : BitVec 12) (s : State) : Result :=
  s.store (s.effAddr rs1 (sext imm)) 2 (s.reg rs2) 4#32

/-- SW (R359). -/
def execSw (rs1 rs2 : Reg) (imm : BitVec 12) (s : State) : Result :=
  s.store (s.effAddr rs1 (sext imm)) 4 (s.reg rs2) 4#32

/-- FENCE: "executed as NOP", whatever pred and succ are (R251, R365). -/
def execFence (_pred _succ : BitVec 4) (s : State) : Result := .next (s.complete 4#32)

/-- FENCE.I: the instruction fetch queue is emptied (R366). -/
def execFenceI (s : State) : Result := .next ({ s with fetchQueue := [] }.complete 4#32)

end Sys2Proof.Machine
end

