-- ==== Sys2Proof/Machine/MulDiv.lean ====
section
/-!
DEFINITION. The multiply and divide instructions (spec/44_rv32m.md). Operands become integers, the
result is exact, and it is narrowed at the end. SCR1_FAST_MUL changes no result (R591).
-/

namespace Sys2Proof.Machine

open Sys2Proof

/-- Bits 63..32 of an exact product taken as a 64-bit two's complement integer (R402 to R404). -/
def highOfProduct (p : Int) : Word := (BitVec.ofInt 64 p).extractLsb' 32 32

/-- DIV's result: -1 for a zero divisor, the dividend on overflow, otherwise truncated toward zero (R405). -/
def divSigned (a b : Word) : Word :=
  if b.toInt = 0 then 0xFFFFFFFF#32
  else if a.toInt = -2147483648 ∧ b.toInt = -1 then 0x80000000#32
  else BitVec.ofInt 32 (a.toInt.tdiv b.toInt)

/-- DIVU's result: 2^32 - 1 for a zero divisor, otherwise the floor (R406). -/
def divUnsigned (a b : Word) : Word :=
  if b.toNat = 0 then 0xFFFFFFFF#32 else BitVec.ofNat 32 (a.toNat / b.toNat)

/-- REM's result: the dividend for a zero divisor, 0 on overflow, otherwise a - b * trunc(a / b) (R407). -/
def remSigned (a b : Word) : Word :=
  if b.toInt = 0 then a
  else if a.toInt = -2147483648 ∧ b.toInt = -1 then 0#32
  else BitVec.ofInt 32 (a.toInt - b.toInt * a.toInt.tdiv b.toInt)

/-- REMU's result: the dividend for a zero divisor, otherwise a mod b (R408). -/
def remUnsigned (a b : Word) : Word := if b.toNat = 0 then a else BitVec.ofNat 32 (a.toNat % b.toNat)

/-- MUL: the low 32 bits of the product (R401). -/
def execMul (rd rs1 rs2 : Reg) (s : State) : Result :=
  s.finish rd (BitVec.ofNat 32 ((s.reg rs1).toNat * (s.reg rs2).toNat)) 4#32

/-- MULH: signed by signed, bits 63..32 (R402). -/
def execMulh (rd rs1 rs2 : Reg) (s : State) : Result :=
  s.finish rd (highOfProduct ((s.reg rs1).toInt * (s.reg rs2).toInt)) 4#32

/-- MULHSU: signed rs1 by unsigned rs2, bits 63..32 (R403). -/
def execMulhsu (rd rs1 rs2 : Reg) (s : State) : Result :=
  s.finish rd (highOfProduct ((s.reg rs1).toInt * ((s.reg rs2).toNat : Int))) 4#32

/-- MULHU: unsigned by unsigned, bits 63..32 (R404). -/
def execMulhu (rd rs1 rs2 : Reg) (s : State) : Result :=
  s.finish rd (highOfProduct (((s.reg rs1).toNat : Int) * ((s.reg rs2).toNat : Int))) 4#32

/-- DIV (R405). -/
def execDiv (rd rs1 rs2 : Reg) (s : State) : Result :=
  s.finish rd (divSigned (s.reg rs1) (s.reg rs2)) 4#32

/-- DIVU (R406). -/
def execDivu (rd rs1 rs2 : Reg) (s : State) : Result :=
  s.finish rd (divUnsigned (s.reg rs1) (s.reg rs2)) 4#32

/-- REM (R407). -/
def execRem (rd rs1 rs2 : Reg) (s : State) : Result :=
  s.finish rd (remSigned (s.reg rs1) (s.reg rs2)) 4#32

/-- REMU (R408). -/
def execRemu (rd rs1 rs2 : Reg) (s : State) : Result :=
  s.finish rd (remUnsigned (s.reg rs1) (s.reg rs2)) 4#32

end Sys2Proof.Machine
end

