-- ==== Sys2Proof/Machine/Ipic.lean ====
section
/-!
DEFINITION. The interrupt controller: its derived quantities (R112), the eight register views and their writes
(R115 to R124), its request (R505), and the sampling of the lines (R506).
-/

namespace Sys2Proof.Machine

open Sys2Proof

/-- The void interrupt vector (R110). -/
def voidVector : Nat := 16

/-- The lowest set bit at or above `16 - n`, or the void vector. -/
def lowestFrom (b : BitVec 16) : Nat → Nat
  | 0 => voidVector
  | n + 1 => if b.getLsbD (15 - n) then 15 - n else lowestFrom b n

/-- The lowest set bit, or the void vector: the lowest numbered vector has the highest priority (R110, R112). -/
def lowestSet (b : BitVec 16) : Nat := lowestFrom b 16

/-- Bit `v` of `b` made `x`. -/
def withBit (b : BitVec 16) (v : Nat) (x : Bool) : BitVec 16 :=
  if x then b ||| (1#16 <<< v) else b &&& ~~~(1#16 <<< v)

/-- act: the conditioned lines, inverted where INV is 1 (R506). -/
def Ipic.act (x : Ipic) (lines : BitVec 16) : BitVec 16 := lines ^^^ x.inv

/-- The IP bits as every register and the request see them. With IPIC_LEVEL_IP_LIVE a level vector's bit is its
line (R506); otherwise all are latches. -/
def Ipic.pending (x : Ipic) (live : Bool) (lines : BitVec 16) : BitVec 16 :=
  if live then (x.ip &&& x.im) ||| (x.act lines &&& ~~~x.im) else x.ip

/-- cisv: the lowest vector in service, or the void vector (R112, R115). -/
def Ipic.cisv (x : Ipic) : Nat := lowestSet x.isv

/-- top: the lowest pending and enabled vector, or the void vector (R112). -/
def Ipic.top (x : Ipic) (live : Bool) (lines : BitVec 16) : Nat := lowestSet (x.pending live lines &&& x.ie)

/-- ipic_req: some enabled pending vector is below cisv (R505). -/
def Ipic.request (x : Ipic) (live : Bool) (lines : BitVec 16) : Bool := decide (x.top live lines < x.cisv)

/-! ## Register views (R115 to R124) -/

/-- IPIC_CISV (R115). -/
def Ipic.readCisv (x : Ipic) : Word := BitVec.ofNat 32 x.cisv

/-- IPIC_CICSR: 0 when nothing is in service (R116). -/
def Ipic.readCicsr (x : Ipic) (live : Bool) (lines : BitVec 16) : Word :=
  if x.cisv = voidVector then 0#32
  else put 1 (bit (x.ie.getLsbD x.cisv)) ||| put 0 (bit ((x.pending live lines).getLsbD x.cisv))

/-- IPIC_IPR (R117). -/
def Ipic.readIpr (x : Ipic) (live : Bool) (lines : BitVec 16) : Word := (x.pending live lines).setWidth 32

/-- IPIC_ISVR (R118). -/
def Ipic.readIsvr (x : Ipic) : Word := x.isv.setWidth 32

/-- IPIC_IDX (R121). -/
def Ipic.readIdx (x : Ipic) : Word := x.idx.setWidth 32

/-- IPIC_ICSR: IDX, PRV = 11, IS, INV, IM, IE, IP of the indexed vector (R124). -/
def Ipic.readIcsr (x : Ipic) (live : Bool) (lines : BitVec 16) : Word :=
  put 12 x.idx ||| put 8 0b11#2 ||| put 4 (bit (x.isv.getLsbD x.idx.toNat))
    ||| put 3 (bit (x.inv.getLsbD x.idx.toNat)) ||| put 2 (bit (x.im.getLsbD x.idx.toNat))
    ||| put 1 (bit (x.ie.getLsbD x.idx.toNat)) ||| put 0 (bit ((x.pending live lines).getLsbD x.idx.toNat))

/-! ## Writes -/

/-- IPIC_CICSR: W1C of IP and write of IE for the vector in service; ignored when there is none (R116). -/
def Ipic.writeCicsr (x : Ipic) (live : Bool) (lines : BitVec 16) (v : Word) : Ipic :=
  if x.cisv = voidVector then x
  else
    { x with
      ip := if v.getLsbD 0 then withBit (x.pending live lines) x.cisv false else x.pending live lines
      ie := withBit x.ie x.cisv (v.getLsbD 1) }

/-- IPIC_IPR: each written 1 clears its pending bit (R117). -/
def Ipic.writeIpr (x : Ipic) (live : Bool) (lines : BitVec 16) (v : Word) : Ipic :=
  { x with ip := x.pending live lines &&& ~~~(v.extractLsb' 0 16) }

/-- IPIC_EOI: ends the vector in service, if any (R119). -/
def Ipic.writeEoi (x : Ipic) : Ipic :=
  if x.cisv = voidVector then x else { x with isv := withBit x.isv x.cisv false }

/-- IPIC_SOI: the top vector goes into service if it outranks the one in service (R120). -/
def Ipic.writeSoi (x : Ipic) (live clearsIp : Bool) (lines : BitVec 16) : Ipic :=
  if x.top live lines ≠ voidVector ∧ (x.cisv = voidVector ∨ x.top live lines < x.cisv) then
    { x with
      isv := withBit x.isv (x.top live lines) true
      ip :=
        if clearsIp then withBit (x.pending live lines) (x.top live lines) false else x.pending live lines }
  else x

/-- IPIC_IDX (R121). -/
def Ipic.writeIdx (x : Ipic) (v : Word) : Ipic := { x with idx := v.extractLsb' 0 4 }

/-- The pending bit of the indexed vector after an IPIC_ICSR write without regard to edges: W1C (R124). -/
def Ipic.icsrPending (x : Ipic) (live : Bool) (lines : BitVec 16) (v : Word) : BitVec 16 :=
  if v.getLsbD 0 then withBit (x.pending live lines) x.idx.toNat false else x.pending live lines

/-- An IPIC_ICSR write that changes IM or INV of the indexed vector: it may be seen as an edge of the line (R506, U28,
notes/assumptions/27.md). -/
def Ipic.icsrMayBeEdge (x : Ipic) (v : Word) : Bool :=
  x.im.getLsbD x.idx.toNat != v.getLsbD 2 || x.inv.getLsbD x.idx.toNat != v.getLsbD 3

/-- IPIC_ICSR: IP by W1C, IE, IM, INV and IS take the written bits (R124); `free` is the pending bit where the
write may be an edge. -/
def Ipic.writeIcsr (x : Ipic) (live : Bool) (lines : BitVec 16) (v : Word) (free : Bool) : Ipic :=
  { x with
    ip :=
      if x.icsrMayBeEdge v then withBit (x.icsrPending live lines v) x.idx.toNat free
      else x.icsrPending live lines v
    ie := withBit x.ie x.idx.toNat (v.getLsbD 1)
    im := withBit x.im x.idx.toNat (v.getLsbD 2)
    inv := withBit x.inv x.idx.toNat (v.getLsbD 3)
    isv := withBit x.isv x.idx.toNat (v.getLsbD 4) }

/-! ## The lines (R506) -/

/-- One cycle of the two-stage synchronizer. -/
def Ipic.sync (x : Ipic) (pins : BitVec 16) : Ipic := { x with sync1 := pins, sync2 := x.sync1 }

/-- One sampling step: an edge vector whose act rose since the previous sampling, and a level vector whose act is 1,
become pending (R506). An inversion written in between is applied to both samples, so it is no edge here. -/
def Ipic.sample (x : Ipic) (lines : BitVec 16) : Ipic :=
  { x with
    ip := x.ip ||| (x.im &&& x.act lines &&& ~~~(x.act x.prev)) ||| (~~~x.im &&& x.act lines)
    prev := lines }

/-- The line levels the IPIC works on: behind the synchronizer when there is one (R506). -/
def State.ipicLines (s : State) : BitVec 16 := if s.cfg.ipicSyncEn then s.ipic.sync2 else s.pins.irqLines

/-! ## MIP (R45, R503 to R505) and the interrupt condition (R510, R511) -/

/-- MIP.MSIP follows soft_irq (R503). -/
def State.msip (s : State) : Bool := s.pins.softIrq

/-- MIP.MTIP (R504). -/
def State.mtip (s : State) : Bool := s.timer.pending

/-- MIP.MEIP: the IPIC's request, or ext_irq without the IPIC (R505). -/
def State.meip (s : State) : Bool :=
  if s.cfg.ipicEn then s.ipic.request s.cfg.ipicLevelIpLive s.ipicLines else s.pins.extIrq

/-- MIP & MIE is not zero (R510). -/
def State.irqPending (s : State) : Bool :=
  (s.mieMeie && s.meip) || (s.mieMsie && s.msip) || (s.mieMtie && s.mtip)

/-- The cause among the pending enabled interrupts: external, software, timer (R511). -/
def State.irqChoice (s : State) : Interrupt :=
  if s.mieMeie && s.meip then .external else if s.mieMsie && s.msip then .software else .timer

end Sys2Proof.Machine
end

