-- ==== Sys2Proof/Machine/Csr.lean ====
section
/-!
DEFINITION. The control and status registers: the map (R30), which exist (R29, R378), what each reads and what a
write does (spec/10_state.md R31 to R52, spec/11_state_timer_ipic_brkm.md R115 to R149), and the shared body of the
six CSR instructions (R375, R376).
-/

namespace Sys2Proof.Machine

open Sys2Proof

/-- The CSRs of the map (R30). -/
inductive Csr where
  | cycle | time | instret | cycleh | timeh | instreth
  | mvendorid | marchid | mimpid | mhartid
  | mstatus | misa | mie | mtvec | mscratch | mepc | mcause | mtval | mip
  | mcycle | minstret | mcycleh | minstreth
  | bpselect | bpcontrol | bploaddr | bphiaddr | bplodata | bphidata | bpctrlext | brkmctrl
  | dbgScratch | mcounten
  | ipicCisv | ipicCicsr | ipicIpr | ipicIsvr | ipicEoi | ipicSoi | ipicIdx | ipicIcsr
  deriving DecidableEq, Repr

/-- The map by address (R30). -/
def csrTable : List (CsrAddr × Csr) :=
  [ (0xC00#12, .cycle), (0xC01#12, .time), (0xC02#12, .instret),
    (0xC80#12, .cycleh), (0xC81#12, .timeh), (0xC82#12, .instreth),
    (0xF11#12, .mvendorid), (0xF12#12, .marchid), (0xF13#12, .mimpid), (0xF14#12, .mhartid),
    (0x300#12, .mstatus), (0x301#12, .misa), (0x304#12, .mie), (0x305#12, .mtvec),
    (0x340#12, .mscratch), (0x341#12, .mepc), (0x342#12, .mcause), (0x343#12, .mtval), (0x344#12, .mip),
    (0xB00#12, .mcycle), (0xB02#12, .minstret), (0xB80#12, .mcycleh), (0xB82#12, .minstreth),
    (0x7C0#12, .bpselect), (0x7C1#12, .bpcontrol), (0x7C2#12, .bploaddr), (0x7C3#12, .bphiaddr),
    (0x7C4#12, .bplodata), (0x7C5#12, .bphidata), (0x7C6#12, .bpctrlext), (0x7C7#12, .brkmctrl),
    (0x7C8#12, .dbgScratch), (0x7E0#12, .mcounten),
    (0xBF0#12, .ipicCisv), (0xBF1#12, .ipicCicsr), (0xBF2#12, .ipicIpr), (0xBF3#12, .ipicIsvr),
    (0xBF4#12, .ipicEoi), (0xBF5#12, .ipicSoi), (0xBF6#12, .ipicIdx), (0xBF7#12, .ipicIcsr) ]

/-- Which configuration switch a CSR's presence hangs on (R30, the last column). -/
def Csr.presentIn (c : Config) : Csr → Bool
  | .cycle | .instret | .cycleh | .instreth | .mcycle | .minstret | .mcycleh | .minstreth => c.cntCsrsPresent
  | .bplodata | .bphidata => c.brkmEn && c.brkmDataCsrs == .readZero
  | .bpselect | .bpcontrol | .bploaddr | .bphiaddr | .bpctrlext | .brkmctrl => c.brkmEn
  | .dbgScratch => c.dbgcEn || c.dbgScratchWithoutDbgc
  | .mcounten => c.mcountenPresent
  | .ipicCisv | .ipicCicsr | .ipicIpr | .ipicIsvr | .ipicEoi | .ipicSoi | .ipicIdx | .ipicIcsr => c.ipicEn
  | .time | .timeh | .mvendorid | .marchid | .mimpid | .mhartid | .mstatus | .misa | .mie | .mtvec | .mscratch
  | .mepc | .mcause | .mtval | .mip => true

/-- The CSR at an address, if it exists in the configuration (R29, R30). -/
def csrAt (c : Config) (a : CsrAddr) : Option Csr :=
  match csrTable.find? (fun p => p.1 == a) with
  | none => none
  | some p => if p.2.presentIn c then some p.2 else none

/-- Address bits 11..10 are 11: a read-only CSR (R28). -/
def csrReadOnly (a : CsrAddr) : Bool := a.extractLsb' 10 2 == 0b11#2

/-- The eight IPIC registers (R113). -/
def Csr.isIpic : Csr → Bool
  | .ipicCisv | .ipicCicsr | .ipicIpr | .ipicIsvr | .ipicEoi | .ipicSoi | .ipicIdx | .ipicIcsr => true
  | .cycle | .time | .instret | .cycleh | .timeh | .instreth | .mvendorid | .marchid | .mimpid | .mhartid
  | .mstatus | .misa | .mie | .mtvec | .mscratch | .mepc | .mcause | .mtval | .mip | .mcycle | .minstret
  | .mcycleh | .minstreth | .bpselect | .bpcontrol | .bploaddr | .bphiaddr | .bplodata | .bphidata | .bpctrlext
  | .brkmctrl | .dbgScratch | .mcounten => false

/-! ## Read views -/

/-- MIMPID (R33). -/
def mimpidValue : Word := 0x17081800#32

/-- MSTATUS: MPP = 11, MPIE, MIE (R35). -/
def State.mstatusWord (s : State) : Word :=
  put 11 0b11#2 ||| put 7 (bit s.mstatusMpie) ||| put 3 (bit s.mstatusMie)

/-- MISA, from the build parameters (R36). -/
def Config.misaWord (c : Config) : Word :=
  put 30 0b01#2 ||| put 23 (bit c.misaRvx) ||| put 12 (bit c.rvm) ||| put 8 (bit (!c.rve)) ||| put 4 (bit c.rve)
    ||| put 2 (bit c.rvc)

/-- The layout that MIE and MIP share: bits 11, 7 and 3 (R37, R45). -/
def interruptWord (external timer software : Bool) : Word :=
  put 11 (bit external) ||| put 7 (bit timer) ||| put 3 (bit software)

/-- MIE (R37). -/
def State.mieWord (s : State) : Word := interruptWord s.mieMeie s.mieMtie s.mieMsie

/-- MIP (R45). -/
def State.mipWord (s : State) : Word := interruptWord s.meip s.mtip s.msip

/-- MTVEC: the trap base with MODE (R40). -/
def State.mtvecWord (s : State) : Word := s.trapBase ||| s.mtvecModeNow.setWidth 32

/-- MCAUSE: INT in bit 31, EC in bits 3..0 (R43). -/
def State.mcauseWord (s : State) : Word := put 31 (bit s.mcauseInt) ||| put 0 s.mcauseEc

/-- MCOUNTEN: IR in bit 2, CY in bit 0 (R52). -/
def State.mcountenWord (s : State) : Word := put 2 (bit s.mcountenIr) ||| put 0 (bit s.mcountenCy)

/-- A running counter as an access sees it: exact, or one more (R48, U10). -/
def seenCounter (running free : Bool) (d : DWord) : DWord := if running && free then d + 1#64 else d

/-- mcycle as a read sees it (R47, U10). -/
def State.cycleSeen (s : State) : DWord := seenCounter s.countsCycles (Config.freeCountBit s.freeIdx) s.mcycle

/-- minstret as a read sees it (R48, U10). -/
def State.instretSeen (s : State) : DWord :=
  seenCounter s.countsInstret (Config.freeCountBit s.freeIdx) s.minstret

/-- A register of the selected breakpoint; a free value when BPSELECT selects none (R140, U14). -/
def State.bpRead (s : State) (a : CsrAddr) (f : Breakpoint → Word) : Word :=
  match s.brkm.selected with
  | some b => f b
  | none => Config.freeBreakpointRead s.freeIdx a

/-- The support bits of the selected breakpoint (R141). -/
def State.selectedSup (s : State) : BpSupport := s.cfg.sup s.brkm.bpselect.toNat

/-- What a read of a CSR gives (R29: the fields at their positions, 0 in every RZ position). -/
def State.readCsr (s : State) : Csr → Word
  | .cycle | .mcycle => lowWord s.cycleSeen
  | .cycleh | .mcycleh => highWord s.cycleSeen
  | .instret | .minstret => lowWord s.instretSeen
  | .instreth | .minstreth => highWord s.instretSeen
  | .time => lowWord s.timer.mtime
  | .timeh => highWord s.timer.mtime
  | .mvendorid => 0#32
  | .marchid => 0#32
  | .mimpid => mimpidValue
  | .mhartid => s.cfg.hartidFuse
  | .mstatus => s.mstatusWord
  | .misa => Config.misaWord s.cfg
  | .mie => s.mieWord
  | .mtvec => s.mtvecWord
  | .mscratch => s.mscratch
  | .mepc => s.mepc &&& 0xFFFFFFFE#32
  | .mcause => s.mcauseWord
  | .mtval => s.mtval
  | .mip => s.mipWord
  | .bpselect => s.brkm.bpselect.setWidth 32
  | .bpcontrol => s.bpRead 0x7C1#12 (fun b => b.readControl s.selectedSup)
  | .bploaddr => s.bpRead 0x7C2#12 (fun b => b.loAddr)
  | .bphiaddr => s.bpRead 0x7C3#12 (fun b => b.hiAddr)
  | .bplodata | .bphidata => 0#32
  | .bpctrlext => s.bpRead 0x7C6#12 (fun b => b.readExt)
  | .brkmctrl => s.brkm.readCtrl (Config.freeInitBit s.freeIdx)
  | .dbgScratch => s.dbgScratch
  | .mcounten => s.mcountenWord
  | .ipicCisv => s.ipic.readCisv
  | .ipicCicsr => s.ipic.readCicsr s.cfg.ipicLevelIpLive s.ipicLines
  | .ipicIpr => s.ipic.readIpr s.cfg.ipicLevelIpLive s.ipicLines
  | .ipicIsvr => s.ipic.readIsvr
  | .ipicEoi => 0#32
  | .ipicSoi => 0#32
  | .ipicIdx => s.ipic.readIdx
  | .ipicIcsr => s.ipic.readIcsr s.cfg.ipicLevelIpLive s.ipicLines

/-! ## Writes -/

/-- The selected breakpoint changed; refused when BPSELECT selects none (R140, U14). -/
def State.bpWrite (s : State) (f : Breakpoint → Breakpoint) : Except Refusal State :=
  match s.brkm.selected with
  | some b => .ok { s with brkm := s.brkm.setSelected (f b) }
  | none => .error .breakpointAbsent

/-- What a write of `v` does: each field takes the written bits or ignores them (R29, R9). -/
def State.writeCsr (s : State) (c : Csr) (v : Word) : Except Refusal State :=
  match c with
  | .mstatus => .ok { s with mstatusMie := v.getLsbD 3, mstatusMpie := v.getLsbD 7 }
  | .mie => .ok { s with mieMsie := v.getLsbD 3, mieMtie := v.getLsbD 7, mieMeie := v.getLsbD 11 }
  | .mtvec => .ok { s with mtvecMode := if s.cfg.vectIrqEn then v.extractLsb' 0 2 else s.mtvecMode }
  | .mscratch => .ok { s with mscratch := v }
  | .mepc => .ok { s with mepc := v &&& 0xFFFFFFFE#32 }
  | .mcause => .ok { s with mcauseInt := v.getLsbD 31, mcauseEc := v.extractLsb' 0 4 }
  | .mtval => .ok { s with mtval := v }
  | .mcycle =>
    .ok { s with mcycle := seenCounter s.countsCycles (Config.freeCountBit s.freeIdx) (setLow s.mcycle v) }
  | .mcycleh =>
    .ok { s with mcycle := seenCounter s.countsCycles (Config.freeCountBit s.freeIdx) (setHigh s.mcycle v) }
  | .minstret =>
    .ok { s with minstret := seenCounter s.countsInstret (Config.freeCountBit s.freeIdx) (setLow s.minstret v) }
  | .minstreth =>
    .ok { s with minstret := seenCounter s.countsInstret (Config.freeCountBit s.freeIdx) (setHigh s.minstret v) }
  | .bpselect => .ok { s with brkm := { s.brkm with bpselect := selectAfter s.cfg.bpWidth v } }
  | .bpcontrol => s.bpWrite (fun b => b.writeControl s.selectedSup s.brkm.mode v s.freeIdx)
  | .bploaddr => s.bpWrite (fun b => { b with loAddr := v })
  | .bphiaddr => s.bpWrite (fun b => { b with hiAddr := v })
  | .bpctrlext => s.bpWrite (fun b => b.writeExt s.selectedSup v s.freeIdx)
  | .brkmctrl => .ok { s with brkm := s.brkm.writeCtrl v }
  | .dbgScratch => .ok { s with dbgScratch := v }
  | .mcounten => .ok { s with mcountenCy := v.getLsbD 0, mcountenIr := v.getLsbD 2 }
  | .ipicCicsr => .ok { s with ipic := s.ipic.writeCicsr s.cfg.ipicLevelIpLive s.ipicLines v }
  | .ipicIpr => .ok { s with ipic := s.ipic.writeIpr s.cfg.ipicLevelIpLive s.ipicLines v }
  | .ipicEoi => .ok { s with ipic := s.ipic.writeEoi }
  | .ipicSoi =>
    .ok { s with ipic := s.ipic.writeSoi s.cfg.ipicLevelIpLive s.cfg.ipicSoiClearsIp s.ipicLines }
  | .ipicIdx => .ok { s with ipic := s.ipic.writeIdx v }
  | .ipicIcsr =>
    .ok { s with
      ipic := s.ipic.writeIcsr s.cfg.ipicLevelIpLive s.ipicLines v (Config.freePendingBit s.freeIdx) }
  -- all fields QRO or RZ: the write is ignored (R36, R45, R115, R118; R144 with BRKM_DATA_CSRS = readZero)
  | .misa | .mip | .ipicCisv | .ipicIsvr | .bplodata | .bphidata => .ok s
  -- read-only addresses: State.csrOp raises before it writes (R377)
  | .cycle | .time | .instret | .cycleh | .timeh | .instreth | .mvendorid | .marchid | .mimpid | .mhartid => .ok s

/-! ## The CSR instruction step (R375, R376) -/

/-- The write of a CSR instruction (R376). -/
inductive CsrWrite where
  /-- CSRRW, CSRRWI: `new = v` -/
  | replace (v : Word)
  /-- CSRRS, CSRRSI: `new = old | v` -/
  | set (v : Word)
  /-- CSRRC, CSRRCI: `new = old & ~v` -/
  | clear (v : Word)
  /-- a set or clear form whose source is x0 or zimm 0: no write -/
  | keep
  deriving DecidableEq, Repr

/-- The value written, from the value read; `none` when the instruction does not write (R376, R380 to R385). -/
def CsrWrite.value : CsrWrite → Word → Option Word
  | .replace v, _ => some v
  | .set v, old => some (old ||| v)
  | .clear v, old => some (old &&& ~~~v)
  | .keep, _ => none

/-- The instruction writes the CSR (R376). -/
def CsrWrite.writes : CsrWrite → Bool
  | .keep => false
  | .replace _ | .set _ | .clear _ => true

/-- A set or clear form that writes (R111). -/
def CsrWrite.setsOrClears : CsrWrite → Bool
  | .set _ | .clear _ => true
  | .replace _ | .keep => false

/-- The write half of step 4 (R375). -/
def State.csrWriteBack (s : State) (c : Csr) : Option Word → Except Refusal State
  | none => .ok s
  | some v => s.writeCsr c v

/-- minstret after a CSR instruction. A write to MINSTRET[H] has settled the count already (U10,
notes/assumptions/17.md); otherwise the instruction counts if counting was enabled when it began
(notes/assumptions/18.md). -/
def csrInstret (before after : State) (c : Csr) (writes : Bool) : DWord :=
  if writes && (c == .minstret || c == .minstreth) then after.minstret else before.retired

/-- The end of a CSR instruction that began in `s` and has made its write in `t`: the value read in rd, the count, the
pc (R375). -/
def State.csrEnd (s t : State) (rd : Reg) (c : Csr) (writes : Bool) : State :=
  { t with minstret := csrInstret s t c writes, pc := s.pc + 4#32 }.setReg rd (s.readCsr c)

/-- Steps 3 to 6 of a CSR instruction on an existing CSR (R375). When rd is x0 the read value goes nowhere; no CSR
read has a side effect (R376). -/
def State.csrAccess (s : State) (rd : Reg) (c : Csr) (w : CsrWrite) : Result :=
  match s.csrWriteBack c (w.value (s.readCsr c)) with
  | .error e => .refused e
  | .ok t => .next (s.csrEnd t rd c w.writes)

/-- A CSR instruction (R375): a CSR that does not exist, and a write to a read-only one, raise IllegalInstruction
with the instruction word (R377, R378, R480); a set or clear form that writes an IPIC register is not supported
(R111, U12). -/
def State.csrOp (s : State) (rd : Reg) (a : CsrAddr) (w : CsrWrite) (inst : Word) : Result :=
  match csrAt s.cfg a with
  | none => s.raise .illegalInstruction inst
  | some c =>
    if w.writes && csrReadOnly a then s.raise .illegalInstruction inst
    else if w.setsOrClears && c.isIpic then .refused .ipicSetClear
    else s.csrAccess rd c w

end Sys2Proof.Machine
end

