-- ==== Sys2Proof/Machine/System.lean ====
section
/-!
DEFINITION. The system instructions and the six CSR instructions (spec/43_rv32i_system.md).
-/

namespace Sys2Proof.Machine

open Sys2Proof

/-- ECALL: raise EcallM(0) (R370). -/
def execEcall (s : State) : Result := s.raise .ecallM 0#32

/-- EBREAK: the Breakpoint exception with any trap value, or Debug-Mode (R371, R523). -/
def execEbreak (s : State) : Result := s.breakpointEvent (Config.freeMtval s.freeIdx)

/-- The return address is not aligned: MEPC[1] = 1 with the C extension off, which no statement covers (R372, U9,
notes/assumptions/16.md). -/
def State.returnMisaligned (s : State) : Bool := !s.cfg.rvc && s.mepc.getLsbD 1

/-- MRET (R372, R524). -/
def execMret (s : State) : Result := if s.returnMisaligned then .refused .mretMisaligned else .next s.trapReturn

/-- WFI completes and counts; it enters the wait state unless an enabled interrupt is pending (R373, R550). -/
def execWfi (s : State) : Result := .next { s.complete 4#32 with waiting := !s.irqPending }

/-- The write of a register-source set or clear form: none when the source is x0 (R376). -/
def fromReg (s : State) (f : Word → CsrWrite) (rs1 : Reg) : CsrWrite := if rs1 = 0#5 then .keep else f (s.reg rs1)

/-- The write of an immediate set or clear form: none when zimm is 0 (R376). -/
def fromImm (f : Word → CsrWrite) (zimm : BitVec 5) : CsrWrite := if zimm = 0#5 then .keep else f (zext zimm)

/-- CSRRW (R380). -/
def execCsrrw (rd : Reg) (csr : CsrAddr) (rs1 : Reg) (s : State) : Result :=
  s.csrOp rd csr (.replace (s.reg rs1)) (encode (.csrrw rd csr rs1)).value

/-- CSRRS (R381). -/
def execCsrrs (rd : Reg) (csr : CsrAddr) (rs1 : Reg) (s : State) : Result :=
  s.csrOp rd csr (fromReg s .set rs1) (encode (.csrrs rd csr rs1)).value

/-- CSRRC (R382). -/
def execCsrrc (rd : Reg) (csr : CsrAddr) (rs1 : Reg) (s : State) : Result :=
  s.csrOp rd csr (fromReg s .clear rs1) (encode (.csrrc rd csr rs1)).value

/-- CSRRWI (R383). -/
def execCsrrwi (rd : Reg) (csr : CsrAddr) (zimm : BitVec 5) (s : State) : Result :=
  s.csrOp rd csr (.replace (zext zimm)) (encode (.csrrwi rd csr zimm)).value

/-- CSRRSI (R384). -/
def execCsrrsi (rd : Reg) (csr : CsrAddr) (zimm : BitVec 5) (s : State) : Result :=
  s.csrOp rd csr (fromImm .set zimm) (encode (.csrrsi rd csr zimm)).value

/-- CSRRCI (R385). -/
def execCsrrci (rd : Reg) (csr : CsrAddr) (zimm : BitVec 5) (s : State) : Result :=
  s.csrOp rd csr (fromImm .clear zimm) (encode (.csrrci rd csr zimm)).value

end Sys2Proof.Machine
end

