-- ==== Sys2Proof/Machine/Debug.lean ====
section
/-!
DEFINITION. The debug subsystem as far as the manual describes it (spec/12_state_debug.md): the registers as read,
the scans of the TAP controller (R171 to R184) and the DAP commands (R185 to R190). What the manual calls reserved is
refused (U30, U40); CORE_EXEC, whose working it does not describe, is refused (R200, notes/assumptions/47.md).
-/

namespace Sys2Proof.Machine

open Sys2Proof

/-! ## The registers as read -/

/-- IDCODE_DR (R174). -/
def idcodeValue : Word := 0xDEB01001#32

/-- DBG_ID_DR and CORE_DEBUG_ID (R176). -/
def debugIdValue : Word := 0x00800004#32

/-- TARGET_ID_DR and CORE_TARGET_ID (R178): CORE_ID, BRKM, PSPEC; MPU, MMU and CACHE are 0. -/
def targetIdValue (c : Config) : Word := put 24 0x01#8 ||| put 23 (bit c.brkmEn) ||| put 12 0b0001#4

/-- HART_DBG_CTRL (R192). -/
def Debug.hartCtrlWord (d : Debug) : Word := 
  put 6 (bit d.hartCtrl.pcAdvmtDsbl) ||| put 0 (bit d.hartCtrl.rst)

/-- HART_DBG_STS (R191); PLVL is 11. DESIGN CHOICE: Rst is 1 from the assertion of a reset source up to the hart's next
step after its release (R572, notes/assumptions/68.md). -/
def State.hartStsWord (s : State) : Word :=
  put 31 (bit s.dbgc.hartSts.lockStky) ||| put 22 (bit s.dbgc.hartSts.errTimeout)
    ||| put 21 (bit s.dbgc.hartSts.errUnexpRst) ||| put 20 (bit s.dbgc.hartSts.errIllegContxt)
    ||| put 19 (bit s.dbgc.hartSts.errDbgCmdNack) ||| put 18 (bit s.dbgc.hartSts.errDapOpcode)
    ||| put 17 (bit s.dbgc.hartSts.errHwThread) ||| put 16 (bit s.dbgc.hartSts.err) ||| put 4 0b11#2
    ||| put 3 (bit s.dbgc.hartSts.except) ||| put 2 (bit s.dbgc.hartSts.rstStky) ||| put 1 (bit s.inReset)
    ||| put 0 (bit s.dbgc.dmode)

/-- HART_DMODE_ENBL (R193). -/
def Debug.dmodeEnblWord (d : Debug) : Word :=
  put 30 (bit d.dmodeEnbl.rstExit) ||| put 28 (bit d.dmodeEnbl.sStep) ||| put 3 (bit d.dmodeEnbl.brkpt)

/-- HART_DMODE_CAUSE (R194). -/
def Debug.dmodeCauseWord (d : Debug) : Word :=
  put 31 (bit d.dmodeCause.enforce) ||| put 30 (bit d.dmodeCause.rstExit) ||| put 29 (bit d.dmodeCause.rstEntr)
    ||| put 28 (bit d.dmodeCause.sStep) ||| put 27 (bit d.dmodeCause.hwBrkpt) ||| put 3 (bit d.dmodeCause.brkpt)

/-- CORE_DBG_CTRL (R201). -/
def Debug.coreCtrlWord (d : Debug) : Word :=
  put 25 (bit d.coreCtrl.irqDsbl) ||| put 24 (bit d.coreCtrl.rst) ||| put 0 (bit d.coreCtrl.hart0Rst)

/-- CORE_DBG_STS and its TAPC view DBG_STATUS_DR (R179, R202). DESIGN CHOICE: Rst and HART0_Rst last as HART_DBG_STS.Rst
does (R572, notes/assumptions/68.md). -/
def State.coreStsWord (s : State) : Word :=
  put 31 (bit s.dbgc.coreSts.ready) ||| put 30 (bit s.dbgc.coreSts.lock) ||| put 29 (bit s.dbgc.coreSts.rstStky)
    ||| put 28 (bit s.inReset) ||| put 20 (bit s.dbgc.coreSts.errDapOpcode)
    ||| put 19 (bit s.dbgc.coreSts.errFsmBusy) ||| put 18 (bit s.dbgc.coreSts.errHwCore)
    ||| put 17 (bit s.dbgc.coreSts.errStky) ||| put 16 (bit s.dbgc.coreSts.err) ||| put 6 0b11#2
    ||| put 4 (bit s.dbgc.coreSts.hart0ErrStky) ||| put 3 (bit s.dbgc.coreSts.hart0Err)
    ||| put 2 (bit s.dbgc.coreSts.hart0RstStky) ||| put 1 (bit s.inReset) ||| put 0 (bit s.dbgc.dmode)

/-! ## DAP commands (R186 to R190) -/

/-- DAP_DATA <- v: the result of a read command (R182). -/
def State.dapResult (s : State) (v : Word) : State := { s with dbgc := { s.dbgc with dapData := v } }

/-- A REGTRANS read of HART[0] (R186). -/
def State.readHartDebug (s : State) (index : Nat) : Except Refusal State :=
  match index with
  | 0 => .ok (s.dapResult s.dbgc.hartCtrlWord)
  | 1 => .ok (s.dapResult s.hartStsWord)
  | 2 => .ok (s.dapResult s.dbgc.dmodeEnblWord)
  | 3 => .ok (s.dapResult s.dbgc.dmodeCauseWord)
  | 4 => .ok (s.dapResult s.dbgc.coreInstr)
  | 5 => .ok (s.dapResult s.dbgScratch)
  | 6 => .ok (s.dapResult s.dbgc.pcSample)
  | _ => .error .debuggerReserved

/-- A REGTRANS write of HART[0]: fields by their attributes, MBZ bits must be zero (R186, R191 to R197). DESIGN CHOICE:
PC_Advmt_Dsbl, of which the spec gives the name only, is storage without an effect on the hart (R192,
notes/assumptions/61.md). -/
def State.writeHartDebug (s : State) (index : Nat) (v : Word) : Except Refusal State :=
  match index with
  | 0 =>
    if v &&& ~~~0x00000041#32 = 0#32 then
      .ok { s with dbgc := { s.dbgc with hartCtrl := ⟨v.getLsbD 6, v.getLsbD 0⟩ } }
    else .error .debuggerReserved
  | 1 => .ok s
  | 2 =>
    if v &&& ~~~0x50000008#32 = 0#32 then
      .ok { s with dbgc := { s.dbgc with dmodeEnbl := ⟨v.getLsbD 30, v.getLsbD 28, v.getLsbD 3⟩ } }
    else .error .debuggerReserved
  | 3 => .ok s
  | 4 => .ok { s with dbgc := { s.dbgc with coreInstr := v } }
  | 5 => .ok { s with dbgScratch := v }
  | 6 => .ok s
  | _ => .error .debuggerReserved

/-- A REGTRANS read of the CORE unit (R186). -/
def State.readCoreDebug (s : State) (index : Nat) : Except Refusal State :=
  match index with
  | 0 => .ok (s.dapResult debugIdValue)
  | 1 => .ok (s.dapResult s.dbgc.coreCtrlWord)
  | 2 => .ok (s.dapResult s.coreStsWord)
  | 5 => .ok (s.dapResult (targetIdValue s.cfg))
  | _ => .error .debuggerReserved

/-- CORE_DBG_STS after a write: a written 1 clears each of the four sticky bits (R202). DESIGN CHOICE: HART0_Rst_Stky is a
bit of its own beside HART_DBG_STS.Rst_Stky, which this write leaves (R191, R202, notes/assumptions/65.md). -/
def CoreDbgSts.clearWritten (c : CoreDbgSts) (v : Word) : CoreDbgSts :=
  { c with
    rstStky := c.rstStky && !v.getLsbD 29
    errStky := c.errStky && !v.getLsbD 17
    hart0ErrStky := c.hart0ErrStky && !v.getLsbD 4
    hart0RstStky := c.hart0RstStky && !v.getLsbD 2 }

/-- A REGTRANS write of the CORE unit (R186, R201, R202). -/
def State.writeCoreDebug (s : State) (index : Nat) (v : Word) : Except Refusal State :=
  match index with
  | 0 => .ok s
  | 1 =>
    if v &&& ~~~0x03000000#32 = 0#32 then
      .ok { s with dbgc := { s.dbgc with coreCtrl := ⟨v.getLsbD 25, v.getLsbD 24, false⟩ } }
    else .error .debuggerReserved
  | 2 => .ok { s with dbgc := { s.dbgc with coreSts := s.dbgc.coreSts.clearWritten v } }
  | 5 => .ok s
  | _ => .error .debuggerReserved

/-- A CSR_CAP read (R188, R199); the group is read-only and bit 3 must be zero. -/
def State.readCap (s : State) (index : Nat) : Except Refusal State :=
  match index with
  | 0 => .ok (s.dapResult (s.readCsr .mvendorid))
  | 1 => .ok (s.dapResult (s.readCsr .marchid))
  | 2 => .ok (s.dapResult (s.readCsr .mimpid))
  | 3 => .ok (s.dapResult (s.readCsr .mhartid))
  | 4 => .ok (s.dapResult (s.readCsr .misa))
  | _ => .error .debuggerReserved

/-- Sticky_Clr: the sticky status bits for the hart (R190). DESIGN CHOICE: these are the two of HART_DBG_STS and the two
of CORE_DBG_STS with HART0 in their names, and not the core's own two (notes/assumptions/63.md). -/
def State.stickyClear (s : State) : State :=
  { s with
    dbgc := { s.dbgc with
      hartSts := { s.dbgc.hartSts with lockStky := false, rstStky := false }
      coreSts := { s.dbgc.coreSts with hart0ErrStky := false, hart0RstStky := false } } }

/-- Halt: from Run-Mode to Debug-Mode (R190, R555). -/
def State.halt (s : State) : State := if s.dbgc.dmode then s else s.enterDebug .halt

/-- Resume: from Debug-Mode to Run-Mode (R190, R555). -/
def State.resume (s : State) : State :=
  if s.dbgc.dmode then { s with dbgc := { s.dbgc with dmode := false, resumed := true } } else s

/-- DBG_CTRL with its operation code extension in DAP_DATA (R190). Halt and Resume together have no stated order. -/
def State.dbgCtrl (s : State) (v : Word) : Except Refusal State :=
  if v &&& ~~~7#32 ≠ 0#32 ∨ (v.getLsbD 0 = true ∧ v.getLsbD 1 = true) then .error .debuggerReserved
  else
    let t := if v.getLsbD 2 then s.stickyClear else s
    .ok (if v.getLsbD 0 then t.halt else if v.getLsbD 1 then t.resume else t)

/-- UNLOCK: the DAP is no longer locked, in both registers that show it (R187, R189, R202). -/
def State.dapUnlock (s : State) : State :=
  { s with
    dbgc := { s.dbgc with
      dapOpStatus := s.dbgc.dapOpStatus &&& 0b1011#4
      coreSts := { s.dbgc.coreSts with lock := false } } }

/-- A DBGCMD command (R187). -/
def State.dbgCommand (s : State) (opcode : Nat) (v : Word) : Except Refusal State :=
  match opcode with
  | 0 => s.dbgCtrl v
  | 1 => .error .coreExecNotDescribed
  | 2 => .ok { s with dbgScratch := v }
  | 3 => .ok s.dapUnlock
  | _ => .error .debuggerReserved

/-- The command that DAP_CONTEXT, DAP_OPCODE and DAP_DATA name (R182, R185 to R188). -/
def State.dapCommand (s : State) : Except Refusal State :=
  let unit := s.dbgc.dapContext.extractLsb' 2 2
  let group := s.dbgc.dapContext.extractLsb' 0 2
  let index := (s.dbgc.dapOpcode.extractLsb' 0 3).toNat
  let write := s.dbgc.dapOpcode.getLsbD 3
  if unit = 0b00#2 ∧ group = 0b00#2 then
    if write then s.writeHartDebug index s.dbgc.dapData else s.readHartDebug index
  else if unit = 0b00#2 ∧ group = 0b01#2 then s.dbgCommand s.dbgc.dapOpcode.toNat s.dbgc.dapData
  else if unit = 0b00#2 ∧ group = 0b10#2 then
    if write then .error .debuggerReserved else s.readCap index
  else if unit = 0b11#2 ∧ group = 0b00#2 then
    if write then s.writeCoreDebug index s.dbgc.dapData else s.readCoreDebug index
  else .error .debuggerReserved

/-! ## Scans (R171 to R184) -/

/-- The IR codes that name an instruction (R171). -/
def irListed (code : BitVec 4) : Bool :=
  code != 0b0000#4 && code != 0b0001#4 && code != 0b0010#4 && code != 0b1010#4 && code != 0b1100#4

/-- A scan of the instruction register (R171). -/
def State.scanIr (s : State) (code : BitVec 4) : Except Refusal State :=
  if irListed code then .ok { s with tapc := { s.tapc with ir := code } } else .error .debuggerReserved

/-- The listed contexts of DAP_CONTEXT (R185, U40). -/
def contextListed (c : BitVec 4) : Bool := c == 0b0000#4 || c == 0b0001#4 || c == 0b0010#4 || c == 0b1100#4

/-- What Capture-DR loads for the selected instruction (R174 to R184). DESIGN CHOICE: the Master TAP Switch Status, of
which the spec says no more than its name, is the control bit last written (R184, notes/assumptions/55.md). DESIGN
CHOICE: CPU Subsystem Reset Status reports a reset from any of the three sources (R183, notes/assumptions/67.md), as
long as the Rst bits do (notes/assumptions/68.md). -/
def State.captureDr (s : State) : BitVec 36 :=
  if s.tapc.ir = 0b0011#4 then debugIdValue.setWidth 36
  else if s.tapc.ir = 0b0100#4 then mimpidValue.setWidth 36
  else if s.tapc.ir = 0b0101#4 then s.coreStsWord.setWidth 36
  else if s.tapc.ir = 0b0110#4 then s.dbgc.dapOpStatus.setWidth 36
  else if s.tapc.ir = 0b0111#4 then s.dbgc.dapContext.setWidth 36
  else if s.tapc.ir = 0b1000#4 then put 32 s.dbgc.dapOpStatus ||| put 0 s.dbgc.dapData
  else if s.tapc.ir = 0b1001#4 then (bit s.inReset).setWidth 36
  else if s.tapc.ir = 0b1011#4 then (targetIdValue s.cfg).setWidth 36
  else if s.tapc.ir = 0b1101#4 then (bit s.tapc.mtapSwitch).setWidth 36
  else if s.tapc.ir = 0b1110#4 then idcodeValue.setWidth 36
  else 0#36

/-- What Update-DR does with the scanned value for the selected instruction (R180 to R184). DESIGN CHOICE: the Ready
bits keep their reset value 0 up to the first DAP command after reset, and each command makes them any value (R189,
R202, notes/assumptions/56.md), which DAP_OPSTATUS and Ready then hold up to the next command, UNLOCK's clearing of Lock
apart (N35, notes/assumptions/69.md). DESIGN CHOICE: no command and no event sets a bit of HART_DBG_STS or CORE_DBG_STS
but Ready and the reset bits (R191, R202, N35, notes/assumptions/64.md). DESIGN CHOICE: a command is carried out
whatever the Ready and Lock bits are (R187, R189, notes/assumptions/60.md). -/
def State.updateDr (s : State) (v : BitVec 36) : Except Refusal State :=
  if s.tapc.ir = 0b0110#4 then
    if contextListed (v.extractLsb' 0 4) then
      .ok { s with dbgc := { s.dbgc with dapContext := v.extractLsb' 0 4 } }
    else .error .debuggerReserved
  else if s.tapc.ir = 0b1000#4 then
    { s with
      dbgc := { s.dbgc with
        dapOpcode := v.extractLsb' 32 4
        dapData := v.extractLsb' 0 32
        dapOpStatus := Config.freeDapStatus s.freeIdx
        coreSts := { s.dbgc.coreSts with ready := Config.freeReady s.freeIdx } } }.dapCommand
  else if s.tapc.ir = 0b1001#4 then .ok { s with tapc := { s.tapc with sysCtrl := v.getLsbD 0 } }
  else if s.tapc.ir = 0b1101#4 then .ok { s with tapc := { s.tapc with mtapSwitch := v.getLsbD 0 } }
  else .ok s

/-- A scan of the selected data register: capture, then update (R172). -/
def State.scanDr (s : State) (v : BitVec 36) : Except Refusal State :=
  { s with tapc := { s.tapc with captured := s.captureDr } }.updateDr v

end Sys2Proof.Machine
end

