-- ==== Sys2Proof/Machine/Env.lean ====
section
/-!
DEFINITION. Reset (R570 to R572) and the moves of the host and of the agents it clocks (R12, R13, R515): what each
move does to the state, and the schedule that a step consumes (notes/assumptions/6.md).
-/

namespace Sys2Proof.Machine

open Sys2Proof

/-! ## Reset -/

/-- A reset source that resets the core and the DBGC: rst_n or tapc_sys_rst_ctrl (R570). -/
def State.systemReset (s : State) : Bool := s.pins.rstAsserted || (s.cfg.dbgcEn && s.tapc.sysCtrl)

/-- dbgcore_rst_ctrl, which resets the core only: the Rst bit of either DBGC control register (R570, D46). -/
def State.coreReset (s : State) : Bool := s.cfg.dbgcEn && (s.dbgc.hartCtrl.rst || s.dbgc.coreCtrl.rst)

/-- Some reset source is asserted (R515 step 0). -/
def State.resetAsserted (s : State) : Bool := s.systemReset || s.coreReset

/-- The DBGC registers after a reset: their reset values, or kept under dbgcore_rst_ctrl alone; the sticky reset bits
are set and the hart is not in Debug-Mode (R570 to R572). DESIGN CHOICE: the four DAP registers, for which no rule names
a reset source, are reset with the DBGC by rst_n and tapc_sys_rst_ctrl and kept through trst_n
(notes/assumptions/54.md). DESIGN CHOICE: a Halt given while dbgcore_rst_ctrl holds the core is dropped, the Debug-Mode
flag staying 0, but HART_DMODE_CAUSE keeps the cause it wrote (R190, R572, notes/assumptions/62.md). DESIGN CHOICE: a
single step that Resume armed is dropped (R193, R570, notes/assumptions/66.md). DESIGN CHOICE: the sticky reset bits are
set for as long as a source is asserted, so that a written 1 or Sticky_Clr given meanwhile does not last (R190, R202,
notes/assumptions/70.md). -/
def State.debugAfterReset (s : State) : Debug :=
  let d := if s.systemReset then Debug.reset else s.dbgc
  { d with
    hartSts := { d.hartSts with rstStky := true }
    coreSts := { d.coreSts with rstStky := true, hart0RstStky := true }
    dmode := false
    resumed := false }

/-- The state held while a reset source is asserted: hart, CSRs, timer, IPIC and BRKM at their reset values, the
divider phase any; the memories, the pins, the TAPC and the schedule stay (R62, R570 to R572, U20). DESIGN CHOICE: under
dbgcore_rst_ctrl alone DBG_SCRATCH, which is HART_DBG_DATA as well, is cleared with the CSRs and not kept with the DBGC
registers (R51, R196, R570, notes/assumptions/53.md). -/
def State.applyReset (s : State) : State :=
  { State.resetWith s.cfg with
    timer := Timer.reset.disturb (Config.freePhase s.freeIdx)
    dbgc := s.debugAfterReset
    tapc := s.tapc
    tcm := s.tcm
    ext := s.ext
    extI := s.extI
    inReset := true
    pins := s.pins
    env := s.env
    freeIdx := s.freeIdx }

/-- While a reset source is asserted, from the moment of its assertion on, the state is held at the reset values
(R13, R570, R572). -/
def State.holdReset (s : State) : State := if s.resetAsserted then s.applyReset else s

/-! ## Moves -/

/-- The aligned word an instruction-side read at `a` gets from memory, when that memory is plain: the TCM, or
external memory the bus answers for (R227, R245). -/
def State.plainWord (s : State) (a : Word) : Option Word :=
  let w := a &&& 0xFFFFFFFC#32
  if s.cfg.inTcm w then
    if s.cfg.tcmOffset w + 4 ≤ s.cfg.tcmSize then some (readLE (s.byte .tcm) (s.cfg.tcmOffset w) 4) else none
  else if s.cfg.fetchAccessible w.toNat && !s.cfg.isDevice w.toNat 4 then
    some (readLE (s.byte s.fetchBank) w.toNat 4)
  else none

/-- The fetch unit reads a word ahead into its queue (R252). -/
def State.prefetch (s : State) (a : Word) : State :=
  match s.plainWord a with
  | some v => { s with fetchQueue := (a &&& 0xFFFFFFFC#32, v) :: s.fetchQueue }
  | none => s

/-- `n` cycles of clk: mcycle if it counts, and the timer if clk is its source (R47, R103, R535). -/
def State.clk (s : State) (n : Nat) : State :=
  { s with
    mcycle := if s.countsCycles then s.mcycle + BitVec.ofNat 64 n else s.mcycle
    timer := if s.timer.clksel then s.timer.tick n (Config.freeMtimeAdvance s.freeIdx) else s.timer }

/-- `n` cycles of rtc_clk: the timer if rtc_clk is its source (R103, R535). -/
def State.rtc (s : State) (n : Nat) : State :=
  { s with timer := if s.timer.clksel then s.timer else s.timer.tick n (Config.freeMtimeAdvance s.freeIdx) }

/-- What a move does, reset apart (State.holdReset). Without a debug subsystem the debugger's moves reach nothing
(R170). -/
def HostMove.apply (m : HostMove) (s : State) : Except Refusal State :=
  match m with
  | .clk n => .ok (s.clk n)
  | .rtc n => .ok (s.rtc n)
  | .irqLines v => .ok { s with pins := { s.pins with irqLines := v } }
  | .softIrq b => .ok { s with pins := { s.pins with softIrq := b } }
  | .extIrq b => .ok { s with pins := { s.pins with extIrq := b } }
  | .syncLines => .ok { s with ipic := s.ipic.sync s.pins.irqLines }
  | .sampleLines => .ok { s with ipic := s.ipic.sample s.ipicLines }
  | .rstN b => .ok { s with pins := { s.pins with rstAsserted := b } }
  | .prefetch a => .ok (s.prefetch a)
  | .scanIr code => if s.cfg.dbgcEn then s.scanIr code else .ok s
  | .scanDr v => if s.cfg.dbgcEn then s.scanDr v else .ok s
  | .tapReset => .ok { s with tapc := Tapc.reset }

/-- The moves of a slot in order; a reset source that is asserted after a move holds the state at once (R572), and each
move advances the index of the free values. -/
def applyMoves : List HostMove → State → Except Refusal State
  | [], s => .ok s
  | m :: rest, s =>
    match m.apply s with
    | .error e => .error e
    | .ok t => applyMoves rest { t.holdReset with freeIdx := t.freeIdx + 1 }

/-- The slot of a step whose schedule says nothing: the platform's lines hold, both clocks run for any number of
cycles, and the IPIC samples (R47, R506, R535; notes/assumptions/6.md). -/
def Slot.idle (idx : Nat) : Slot where
  moves := [.clk (Config.freeClkTicks idx), .rtc (Config.freeRtcTicks idx), .syncLines, .syncLines, .sampleLines]
  deferIrq := false
  stale := []

/-- The slot of the step about to be made. -/
def State.slot (s : State) : Slot :=
  match s.env with
  | [] => Slot.idle s.freeIdx
  | sl :: _ => sl

/-- After the hart's step: HART_PC_SAMPLE follows the pc while the core is out of reset (R197), the slot's moves are
made, and the schedule and the index of the free values advance. -/
def State.hostPhase (t : State) (moves : List HostMove) : Result :=
  let u : State :=
    { t with
      dbgc := { t.dbgc with pcSample := if t.inReset then t.dbgc.pcSample else t.pc }
      env := t.env.tail
      freeIdx := t.freeIdx + 1 }
  match applyMoves moves u with
  | .error e => .refused e
  | .ok v => .next v

end Sys2Proof.Machine
end

