-- ==== Sys2Proof/Machine/Fetch.lean ====
section
/-!
DEFINITION. Fetching an instruction's bytes (R227, R245, R252), and the parts of the hart's step (R515): the
interrupt condition, the wait state, and the instruction at the pc.
-/

namespace Sys2Proof.Machine

open Sys2Proof

/-! ## Fetch -/

/-- What an instruction-side read gives. -/
inductive Fetched (α : Type) where
  | ok (v : α)
  /-- the bus answers with an error: InstrAccessFault with this trap value (R472) -/
  | noAnswer (tval : Word)
  /-- no meaning or no memory there (U22, R239) -/
  | stop (r : Result)

/-- The queued word this fetch uses in place of memory: one the slot names and the queue holds (R252). -/
def State.queuedWord (s : State) (w : Word) : Option Word :=
  (s.slot.stale.find? (fun p => p.1 == w && s.fetchQueue.contains p)).map Prod.snd

/-- IWord(w) for the 4-byte-aligned `w` (R245); `tval` is the trap value if the bus answers with an error. -/
def State.fetchWord (s : State) (w tval : Word) : Fetched Word :=
  match s.queuedWord w with
  | some v => .ok v
  | none =>
    if s.cfg.inTcm w then
      if s.cfg.tcmOffset w + 4 ≤ s.cfg.tcmSize then .ok (readLE (s.byte .tcm) (s.cfg.tcmOffset w) 4)
      else .stop (.fault .tcmBeyondSize)
    else if !s.cfg.fetchAccessible w.toNat then .noAnswer tval
    else if s.cfg.isDevice w.toNat 4 then .stop (.refused .deviceAccess)
    else .ok (readLE (s.byte s.fetchBank) w.toNat 4)

/-- The half of an aligned word that holds the halfword at `a` (R227). -/
def halfAt (word a : Word) : Half := if a.getLsbD 1 then word.extractLsb' 16 16 else word.extractLsb' 0 16

/-- IHalf(a) (R245). -/
def State.fetchHalf (s : State) (a : Word) : Fetched Half :=
  match s.fetchWord (a &&& 0xFFFFFFFC#32) a with
  | .ok v => .ok (halfAt v a)
  | .noAnswer t => .noAnswer t
  | .stop r => .stop r

/-- Fetch(pc) (R245): one halfword where its low bits are not 11, or two. -/
def State.fetch (s : State) : Fetched Parcel :=
  match s.fetchHalf s.pc with
  | .noAnswer t => .noAnswer t
  | .stop r => .stop r
  | .ok lo =>
    if quadrantOf lo != 3#2 then .ok (.c16 lo)
    else
      match s.fetchHalf (s.pc + 2#32) with
      | .noAnswer t => .noAnswer t
      | .stop r => .stop r
      | .ok hi => .ok (.c32 (put 16 hi ||| put 0 lo))

/-! ## The instruction at the pc -/

/-- The instruction a parcel is in this configuration (R515 step 7): a halfword without the C
extension is illegal (R260). -/
def decodeIn (c : Config) (p : Parcel) : Except DecodeError Instr :=
  match decodeParcel p with
  | .error e => .error e
  | .ok i => if i.existsIn c then .ok i else .error .unusedFunction

/-- Steps 7 and 8: decode and execute. Everything that is no instruction raises IllegalInstruction with its bits
(R480), but for the one code point that the spec gives neither a row nor an effect (R282 point 5). -/
def State.runParcel (s : State) (p : Parcel) : Result :=
  match decodeIn s.cfg p with
  | .ok i => exec i s
  | .error .undefinedCNop => if s.cfg.rvc then .refused .undefinedEncoding else s.raise .illegalInstruction p.value
  | .error _ => s.raise .illegalInstruction p.value

/-- The 32-bit word fetched at the pc, whose low halfword is zero: what R449 gives as that halfword's trap value without the
C extension. -/
def State.zeroHalfValue (s : State) : Word :=
  match s.fetchHalf (s.pc + 2#32) with
  | .ok hi => put 16 hi
  | _ => 0#32

/-- Steps 7 and 8 for what the fetch gave. DEDUCED: for the zero halfword without the C extension the rules differ, R480,
R523 and D41 giving the halfword zero-extended as the trap value and R449 the whole word, so a free bit chooses between
the two (notes/assumptions/59.md). -/
def State.runFetched (s : State) (p : Parcel) : Result :=
  if !s.cfg.rvc && p == .c16 0#16 && Config.freeZeroHalfWord s.freeIdx then s.raise .illegalInstruction s.zeroHalfValue
  else s.runParcel p

/-- Steps 6 to 8 (R515). -/
def State.fetchAndRun (s : State) : Result :=
  match s.fetch with
  | .noAnswer tval => s.raise .instrAccessFault tval
  | .stop r => r
  | .ok p => s.runFetched p

/-- Steps 5 to 8 (R515): the breakpoint check comes before the fetch. -/
def State.instrStep (s : State) : Result :=
  match s.bpCheckExec with
  | .ended r => r
  | .done t _ => t.fetchAndRun

/-- After one instruction that followed Resume: Debug-Mode again if HART_DMODE_ENBL.SStep asks for it (R193,
R555). -/
def State.afterInstr (t : State) : State :=
  if t.dbgc.resumed then
    if t.dbgc.dmodeEnbl.sStep then t.enterDebug .sStep else { t with dbgc := { t.dbgc with resumed := false } }
  else t

/-- `f` on the next state of a result. -/
def mapNext (r : Result) (f : State → State) : Result :=
  match r with
  | .next t => .next (f t)
  | .fault e => .fault e
  | .refused e => .refused e

/-! ## The hart's step (R515) -/

/-- Step 4: the interrupt is taken at this boundary (R510). DESIGN CHOICE: Irq_Dsbl blocks the trap only and hides no
pending bit, neither in MIP nor from the wait state (R201, notes/assumptions/58.md). -/
def State.takesInterrupt (s : State) : Bool :=
  s.mstatusMie && s.irqPending && !s.dbgc.coreCtrl.irqDsbl && !(s.slot.deferIrq && !s.cfg.interruptLatencyZero)

/-- The hart leaves the wait state (R515 step 3). -/
def State.wake (s : State) : State := if s.waiting then { s with waiting := false } else s

/-- Steps 1 to 8 (R515). -/
def State.runMode (s : State) : Result :=
  if s.dbgc.dmode then .next s
  else if s.waiting && !s.irqPending then .next s
  else if s.takesInterrupt then .next (s.interrupt s.irqChoice)
  else mapNext s.wake.instrStep State.afterInstr

/-- The hart's step: step 0, the exit from reset with its redirection (R555, R572), then steps 1 to 8. DESIGN CHOICE:
Rst_Exit is examined at the hart's first step after the release of the last source, and its entry to Debug-Mode goes over
a Halt given between (R193, notes/assumptions/72.md). -/
def State.hartStep (s : State) : Result :=
  if s.resetAsserted then .next s.applyReset
  else if s.inReset then
    if s.cfg.dbgcEn && s.dbgc.dmodeEnbl.rstExit then .next ({ s with inReset := false }.enterDebug .rstExit)
    else { s with inReset := false }.runMode
  else s.runMode

/-- One step of the machine: the hart's step, then the host's moves of this step's slot. DESIGN CHOICE: a prefetch is such
a move, so nothing is queued before the first instruction after State.reset has completed, and what that instruction
stores into code is what a later fetch sees (R252, R253, notes/assumptions/57.md). -/
def State.machineStep (s : State) : Result :=
  if s.cfg.legal then
    match s.hartStep with
    | .next t => t.hostPhase s.slot.moves
    | .fault e => .fault e
    | .refused e => .refused e
  else .refused .illegalConfiguration

/-! ## Placing an instruction -/

/-- The memory the fetch at the pc reads, with the `n` bytes of `v` stored at the pc and the fetch queue empty. -/
def State.placeAtPc (s : State) (n : Nat) (v : Word) : State :=
  if s.cfg.inTcm s.pc then
    { s with tcm := Memory.storeLE s.tcm (s.cfg.tcmOffset s.pc) n v, fetchQueue := [] }
  else if s.cfg.unifiedExternalMemory then
    { s with ext := Memory.storeLE s.ext s.pc.toNat n v, fetchQueue := [] }
  else { s with extI := Memory.storeLE s.extI s.pc.toNat n v, fetchQueue := [] }

end Sys2Proof.Machine
end

