-- ==== Sys2Proof/Machine/Step.lean ====
section
/-!
DEFINITION. step, and the placing of an instruction where step fetches it; both only call Machine/Fetch.lean.
-/

namespace Sys2Proof.Machine

open Sys2Proof

/-- One step of the machine (R515). -/
def step (s : State) : Host.Outcome State Fault Refusal := s.machineStep

/-- The state with an instruction stored at its pc, little-endian, four bytes, the bits above `nbits` zero: a
program is loaded from outside the machine, and this stands for that load (R575, notes/assumptions/50.md). -/
def State.withFetchWord (s : State) (nbits w : Nat) : State := s.placeAtPc 4 (BitVec.ofNat 32 (w % 2 ^ nbits))

end Sys2Proof.Machine
end

