-- ==== Sys2Proof/Safety.lean ====
section
/-!
DEFINITION. The vocabulary of the statements about this machine: what a completed instruction leaves, the frame it
keeps, what a trap leaves, where a data access goes, what the instruction fetch sees, and the invariants.
Values are said in Nat and Int arithmetic where the spec computes, not in the machine's own functions.
-/

namespace Sys2Proof.Machine

open Sys2Proof

/-! ## Answers -/

/-- exec answers a next state, and `P` holds of it. -/
def Answers (i : Instr) (s : State) (P : State → Prop) : Prop := ∃ t, exec i s = .next t ∧ P t

/-! ## Frames -/

/-- Every byte of the three memories is as before: the value it held, or none where nothing has written (R222, R236,
R237, R239). -/
structure SameMemory (s t : State) : Prop where
  tcm : ∀ a, Memory.byteAt t.tcm a = Memory.byteAt s.tcm a
  ext : ∀ a, Memory.byteAt t.ext a = Memory.byteAt s.ext a
  extI : ∀ a, Memory.byteAt t.extI a = Memory.byteAt s.extI a

/-- minstret counts now: MCOUNTEN.IR where MCOUNTEN exists, always where it does not (R48, R52). -/
def CountingOn (s : State) : Prop :=
  s.cfg.csrMcountenEn = true → s.cfg.cntCsrsPresent = true → s.mcountenIr = true

/-- The instruction is counted in minstret, exactly once, when counting is on (R48). -/
structure Counted (s t : State) : Prop where
  on : CountingOn s → t.minstret = s.minstret + 1#64
  off : ¬CountingOn s → t.minstret = s.minstret

/-- No register changes. -/
def SameRegs (s t : State) : Prop := ∀ r, t.reg r = s.reg r

/-- Register `rd` holds `v` and every other register is unchanged; a write to x0 is discarded (R21). -/
structure RegResult (s t : State) (rd : Reg) (v : Word) : Prop where
  dest : rd ≠ 0#5 → t.reg rd = v
  zero : t.reg 0#5 = 0#32
  others : ∀ r, r ≠ rd → t.reg r = s.reg r

/-- The instruction completed: `v` in `rd`, the pc at `next`, counted, no byte of memory and nothing else of the
state changed (R300, R322). -/
structure RegDone (s t : State) (rd : Reg) (v next : Word) : Prop where
  regs : RegResult s t rd v
  pc : t.pc = next
  counted : Counted s t
  memory : SameMemory s t
  rest : t = { s with regs := t.regs, pc := t.pc, minstret := t.minstret }

/-- The instruction completed and changed the pc and the count only (R300, R333, R340). -/
structure FlowDone (s t : State) (next : Word) : Prop where
  regs : SameRegs s t
  pc : t.pc = next
  counted : Counted s t
  memory : SameMemory s t
  rest : t = { s with pc := t.pc, minstret := t.minstret }

/-! ## Data accesses -/

/-- The unsigned value of the `n` bytes from `a` on, the lowest address in the low bits (R220, R242). -/
def leNat (byteAt : Nat → Byte) (a : Nat) : Nat → Nat
  | 0 => 0
  | n + 1 => (byteAt a).toNat + 256 * leNat byteAt (a + 1) n

/-- An aligned access of `n` bytes at `a` that goes to the TCM, at offset `off` (R223, R230, R237). -/
structure GoesToTcm (c : Config) (a : Word) (n off : Nat) : Prop where
  aligned : a.toNat % n = 0
  noTimer : c.inTimer a = false
  window : c.inTcm a = true
  offset : off = c.tcmOffset a
  fits : off + n ≤ c.tcmSize

/-- An aligned access of `n` bytes at `a` that goes to external memory, which is no device (R239, R240). -/
structure GoesToExt (c : Config) (k : AccessKind) (a : Word) (n : Nat) : Prop where
  aligned : a.toNat % n = 0
  noTimer : c.inTimer a = false
  noTcm : c.inTcm a = false
  answers : c.dataAccessible a.toNat n k = true
  plain : c.isDevice a.toNat n = false

/-- A word access at `a` to the timer register at offset `off` (R100, R104, R105). -/
structure GoesToTimer (c : Config) (a : Word) (off : Nat) : Prop where
  aligned : a.toNat % 4 = 0
  window : c.inTimer a = true
  offset : off = c.timerOffset a
  register : off = 0 ∨ off = 4 ∨ off = 8 ∨ off = 12 ∨ off = 16

/-- An aligned access that gets no answer: a byte or halfword in the timer window, or an address outside both
windows for which the data bus answers with an error (R104, R475, R477). -/
structure GetsNoAnswer (c : Config) (k : AccessKind) (a : Word) (n : Nat) : Prop where
  aligned : a.toNat % n = 0
  reason : (c.inTimer a = true ∧ n ≠ 4) ∨
    (c.inTimer a = false ∧ c.inTcm a = false ∧ c.dataAccessible a.toNat n k = false)

/-- How a load makes the register value from the bytes it read (R350 to R355). -/
inductive Extension where
  | signed
  | unsigned
  deriving DecidableEq, Repr

/-- The register value of an `n`-byte load whose bytes have the value `v` (R350). -/
def extended (e : Extension) (n v : Nat) : Word :=
  match e with
  | .unsigned => BitVec.ofNat 32 v
  | .signed => BitVec.ofInt 32 ((BitVec.ofNat (8 * n) v).toInt)

/-- The destination, address, size, extension and length of a load instruction. -/
structure LoadShape where
  rd : Reg
  addr : Word
  size : Nat
  ext : Extension
  len : Word

/-- The seven loads (R351 to R355, R422, R441); every other instruction is none. -/
def loadShape (s : State) : Instr → Option LoadShape
  | .lb rd rs1 imm => some ⟨rd, s.reg rs1 + imm.signExtend 32, 1, .signed, 4#32⟩
  | .lh rd rs1 imm => some ⟨rd, s.reg rs1 + imm.signExtend 32, 2, .signed, 4#32⟩
  | .lw rd rs1 imm => some ⟨rd, s.reg rs1 + imm.signExtend 32, 4, .unsigned, 4#32⟩
  | .lbu rd rs1 imm => some ⟨rd, s.reg rs1 + imm.signExtend 32, 1, .unsigned, 4#32⟩
  | .lhu rd rs1 imm => some ⟨rd, s.reg rs1 + imm.signExtend 32, 2, .unsigned, 4#32⟩
  | .cLw rd rs1 imm => some ⟨8#5 + rd.setWidth 5, s.reg (8#5 + rs1.setWidth 5) + imm.setWidth 32, 4, .unsigned, 2#32⟩
  | .cLwsp rd imm => some ⟨rd, s.reg 2#5 + imm.setWidth 32, 4, .unsigned, 2#32⟩
  | _ => none

/-- The address, size, stored value and length of a store instruction. -/
structure StoreShape where
  addr : Word
  size : Nat
  value : Word
  len : Word

/-- The five stores (R357 to R359, R423, R448); every other instruction is none. -/
def storeShape (s : State) : Instr → Option StoreShape
  | .sb rs1 rs2 imm => some ⟨s.reg rs1 + imm.signExtend 32, 1, s.reg rs2, 4#32⟩
  | .sh rs1 rs2 imm => some ⟨s.reg rs1 + imm.signExtend 32, 2, s.reg rs2, 4#32⟩
  | .sw rs1 rs2 imm => some ⟨s.reg rs1 + imm.signExtend 32, 4, s.reg rs2, 4#32⟩
  | .cSw rs1 rs2 imm => some ⟨s.reg (8#5 + rs1.setWidth 5) + imm.setWidth 32, 4, s.reg (8#5 + rs2.setWidth 5), 2#32⟩
  | .cSwsp rs2 imm => some ⟨s.reg 2#5 + imm.setWidth 32, 4, s.reg rs2, 2#32⟩
  | _ => none

/-- `after` is `before` with the low `n` bytes of `v` stored from `a` on, the low byte first, and every other byte
unchanged (R220, R242). -/
structure StoredBytes (before after : Memory) (a n : Nat) (v : Word) : Prop where
  inside : ∀ i, i < n → Memory.byteAt after (a + i) = some (BitVec.ofNat 8 (v.toNat / 256 ^ i))
  outside : ∀ b, b < a ∨ a + n ≤ b → Memory.byteAt after b = Memory.byteAt before b

/-- A store into the TCM completed: nothing but its bytes, the pc and the count changed (R356). -/
structure TcmStoreDone (s t : State) (f : StoreShape) (off : Nat) : Prop where
  stored : StoredBytes s.tcm t.tcm off f.size f.value
  regs : SameRegs s t
  pc : t.pc = s.pc + f.len
  counted : Counted s t
  rest : t = { s with tcm := t.tcm, pc := t.pc, minstret := t.minstret }

/-- A store into external memory completed (R356). -/
structure ExtStoreDone (s t : State) (f : StoreShape) : Prop where
  stored : StoredBytes s.ext t.ext f.addr.toNat f.size f.value
  regs : SameRegs s t
  pc : t.pc = s.pc + f.len
  counted : Counted s t
  rest : t = { s with ext := t.ext, pc := t.pc, minstret := t.minstret }

/-- The timer register at an offset, as a number (R100 to R103, R105). -/
def timerValue (x : Timer) (off : Nat) : Nat :=
  if off = 0 then x.mtime.toNat % 2 ^ 32
  else if off = 4 then x.mtime.toNat / 2 ^ 32
  else if off = 8 then x.mtimecmp.toNat % 2 ^ 32
  else if off = 12 then x.mtimecmp.toNat / 2 ^ 32
  else x.coef.toNat + 2 ^ 16 * x.clksel.toNat + 2 ^ 17 * x.en.toNat

/-- What is stored of a word in the timer register at an offset: 18 bits in MTIMECLKSET (R103, R105). -/
def timerStored (off : Nat) (v : Word) : Nat := if off = 16 then v.toNat % 2 ^ 18 else v.toNat

/-- The timer after a store of `v` at offset `off`: that register holds it, every other register is unchanged, and
the divider's phase is a legal one; it stays when only the compare register is written (R105, U20). -/
structure TimerStored (x y : Timer) (off : Nat) (v : Word) : Prop where
  written : timerValue y off = timerStored off v
  others : ∀ o, o = 0 ∨ o = 4 ∨ o = 8 ∨ o = 12 ∨ o = 16 → o ≠ off → timerValue y o = timerValue x o
  phase : off = 8 ∨ off = 12 → y.phase = x.phase
  legal : off ≠ 8 → off ≠ 12 → y.phase < max y.coef.toNat 1

/-- A store into a timer register completed. -/
structure TimerStoreDone (s t : State) (f : StoreShape) (off : Nat) : Prop where
  stored : TimerStored s.timer t.timer off f.value
  regs : SameRegs s t
  pc : t.pc = s.pc + f.len
  counted : Counted s t
  memory : SameMemory s t
  rest : t = { s with timer := t.timer, pc := t.pc, minstret := t.minstret }

/-! ## Traps -/

/-- The trap vector: BASE, or BASE + 4 * cause for an interrupt in vectored mode, which exists only where
SCR1_VECT_IRQ_EN is on; modes 2 and 3 have no stated target (R40, R521, U8). -/
structure TargetIs (s : State) (int : Bool) (code : BitVec 4) (pc : Word) : Prop where
  direct : s.cfg.vectIrqEn = false ∨ s.mtvecMode = 0#2 → pc = s.cfg.mtvecBase &&& 0xFFFFFFFC#32
  exception : s.mtvecMode = 1#2 → int = false → pc = s.cfg.mtvecBase &&& 0xFFFFFFFC#32
  vectored : s.cfg.vectIrqEn = true → s.mtvecMode = 1#2 → int = true →
    pc = (s.cfg.mtvecBase &&& 0xFFFFFFFC#32) + BitVec.ofNat 32 (4 * code.toNat)

/-- Trap entry from `s` to `t`; `tval = none` where the spec allows any trap value (R520, R521, R523). -/
structure TrapTaken (s t : State) (int : Bool) (code : BitVec 4) (epc : Word) (tval : Option Word) : Prop where
  mepc : t.mepc = epc &&& 0xFFFFFFFE#32
  cause : t.mcauseInt = int ∧ t.mcauseEc = code
  mtval : ∀ v, tval = some v → t.mtval = v
  mpie : t.mstatusMpie = s.mstatusMie
  mie : t.mstatusMie = false
  target : TargetIs s int code t.pc
  awake : t.waiting = false
  regs : SameRegs s t
  memory : SameMemory s t
  rest : t = { s with
    mepc := t.mepc, mcauseInt := t.mcauseInt, mcauseEc := t.mcauseEc, mtval := t.mtval,
    mstatusMpie := t.mstatusMpie, mstatusMie := t.mstatusMie, pc := t.pc, waiting := t.waiting }

/-- The instruction takes the exception `code` at its own address: it is not counted and does nothing else (R482). -/
def Traps (i : Instr) (s : State) (code : BitVec 4) (tval : Option Word) : Prop :=
  Answers i s (fun t => TrapTaken s t false code s.pc tval)

/-- Entry to Debug-Mode from `s` to `t`: the pc stays, no trap CSR is written, MSTATUS is unchanged (R555). -/
structure DebugEntered (s t : State) : Prop where
  dmode : t.dbgc.dmode = true
  pc : t.pc = s.pc
  regs : SameRegs s t
  memory : SameMemory s t
  rest : t = { s with
    dbgc := { s.dbgc with dmode := true, dmodeCause := t.dbgc.dmodeCause, resumed := false }, waiting := false }

/-! ## Reset -/

/-- The hart, its CSRs and the timer at the values that the spec states for reset, memory apart (R62, R571). -/
structure AtReset (t : State) : Prop where
  pc : t.pc = t.cfg.rstVector
  regs : ∀ r, t.reg r = 0#32
  mstatus : t.readCsr .mstatus = 0x1880#32
  mie : t.readCsr .mie = 0#32
  mtvec : t.readCsr .mtvec = t.cfg.mtvecBase
  mscratch : t.readCsr .mscratch = 0#32
  mepc : t.readCsr .mepc = 0#32
  mcause : t.readCsr .mcause = 0#32
  mtval : t.readCsr .mtval = 0#32
  mcycle : t.mcycle = 0#64
  minstret : t.minstret = 0#64
  mtime : t.timer.mtime = 0#64
  mtimecmp : t.timer.mtimecmp = 0xFFFFFFFFFFFFFFFF#64
  clkset : t.timer.clkset = 0x30064#32
  phase : t.timer.phase < 100
  dbgScratch : t.readCsr .dbgScratch = 0#32
  mcounten : t.readCsr .mcounten = 0x5#32
  awake : t.waiting = false
  queue : t.fetchQueue = []
  runMode : t.dbgc.dmode = false

/-! ## Instruction fetch -/

/-- The aligned word holding `a`. -/
def wordAddr (a : Word) : Word := a &&& 0xFFFFFFFC#32

/-- The word holding `a` can be read as instruction memory: the TCM, or memory the instruction bus answers for and
that is no device (R237, R240, R245). -/
def FetchReady (s : State) (a : Word) : Prop :=
  if s.cfg.inTcm (wordAddr a) = true then s.cfg.tcmOffset (wordAddr a) + 4 ≤ s.cfg.tcmSize
  else s.cfg.fetchAccessible (wordAddr a).toNat = true ∧ s.cfg.isDevice (wordAddr a).toNat 4 = false

/-- The word holding `a` is outside the TCM and the instruction bus answers with an error (R472). -/
def FetchFails (s : State) (a : Word) : Prop :=
  s.cfg.inTcm (wordAddr a) = false ∧ s.cfg.fetchAccessible (wordAddr a).toNat = false

/-- The byte of instruction memory at `a`: the TCM, or external memory, which is the data side's own only when
UNIFIED_EXTERNAL_MEMORY (R227, R236, R237). -/
def instrByte (s : State) (a : Word) : Byte :=
  if s.cfg.inTcm (wordAddr a) then s.byte .tcm (s.cfg.tcmOffset (wordAddr a) + a.toNat % 4)
  else s.byte (if s.cfg.unifiedExternalMemory then .ext else .extI) ((wordAddr a).toNat + a.toNat % 4)

/-- The word of instruction memory that holds `a` (R220, R227, R245). -/
def memoryWord (s : State) (a : Word) : Word :=
  BitVec.ofNat 32 (leNat (fun i => instrByte s (wordAddr a + BitVec.ofNat 32 i)) 0 4)

/-- The four bytes of instruction memory from the pc on. -/
def pcBytes (s : State) : List Byte :=
  [instrByte s s.pc, instrByte s (s.pc + 1#32), instrByte s (s.pc + 2#32), instrByte s (s.pc + 3#32)]

/-- The hart is about to execute the instruction at its pc: a legal configuration, no reset, Run-Mode, not waiting,
no interrupt to take, no breakpoint on the pc, an even pc, and no stale word of the fetch queue: the slot names none, or
the queue is empty (R252, R515). -/
structure AboutToExecute (s : State) : Prop where
  legal : s.cfg.legal = true
  noReset : s.resetAsserted = false
  outOfReset : s.inReset = false
  runMode : s.dbgc.dmode = false
  awake : s.waiting = false
  noInterrupt : s.mstatusMie = false ∨ s.irqPending = false
  noBreakpoint : s.bpQuiet .exec s.pc 1 = true
  even : s.pc.getLsbD 0 = false
  fresh : s.slot.stale = [] ∨ s.fetchQueue = []

/-! ## Breakpoints -/

/-- The address mask term: at the base address, or with AMASKEXT_EN at the address of some byte of the access (R545,
R546). -/
def maskRule (b : Breakpoint) (a : Word) (n : Nat) : Bool :=
  (List.range (if b.amaskext then n else 1)).any (fun i => decide ((a + BitVec.ofNat 32 i) &&& b.hiAddr = b.loAddr))

/-- match_b of R545 and R546 for an access of kind `k` and `n` bytes at `a`. -/
def matchRule (b : Breakpoint) (k : BpKind) (a : Word) (n : Nat) : Bool :=
  ((!b.aen && !b.amasken) || (b.aen && decide (a = b.loAddr)) || (b.amasken && maskRule b a n))
    && ((b.loaden && decide (k = .load)) || (b.storeen && decide (k = .store)) || (b.execen && decide (k = .exec)))

/-- MATCHED of every breakpoint after the access: set by a match with ACTION 1 or 2, or with ACTION 0 and DRYRUN
(R545). -/
def matchedRule (k : BpKind) (a : Word) (n : Nat) (b : Breakpoint) : Breakpoint :=
  { b with
    matched := b.matched ||
      (matchRule b k a n && (decide (b.action = 1#3) || decide (b.action = 2#3) || (decide (b.action = 0#3) && b.dryrun))) }

/-- The state with those MATCHED bits. -/
def afterMatch (s : State) (k : BpKind) (a : Word) (n : Nat) : State :=
  { s with brkm := { s.brkm with bps := s.brkm.bps.map (matchedRule k a n) } }

/-- Some breakpoint matches with `action` and none with a stronger or reserved one (R545). The extended mask of an
instruction fetch, whose size is not known, is what R546 leaves open (U31, notes/assumptions/34.md). -/
structure StrongestMatch (s : State) (k : BpKind) (a : Word) (n : Nat) (action : BitVec 3) : Prop where
  present : s.cfg.brkmEn = true
  stated : k = .exec → ∀ b ∈ s.brkm.bps, ¬(b.execen = true ∧ b.amasken = true ∧ b.amaskext = true)
  hit : ∃ b ∈ s.brkm.bps, matchRule b k a n = true ∧ b.action = action
  strongest : ∀ b ∈ s.brkm.bps, matchRule b k a n = true → b.action.toNat ≤ action.toNat

/-! ## Plain control and status registers -/

/-- The writable bits of a CSR that is plain storage filtered by field attributes, and the bits that always read the
same; none for every other CSR (R35 to R44, R51, R52, R379). -/
def plainCsr (c : Config) : Csr → Option (Word × Word)
  | .mstatus => some (0x00000088#32, 0x00001800#32)
  | .mie => some (0x00000888#32, 0#32)
  | .mtvec => some (if c.vectIrqEn then 0x3#32 else 0#32, c.mtvecBase &&& 0xFFFFFFFC#32)
  | .mscratch => some (0xFFFFFFFF#32, 0#32)
  | .mepc => some (0xFFFFFFFE#32, 0#32)
  | .mcause => some (0x8000000F#32, 0#32)
  | .mtval => some (0xFFFFFFFF#32, 0#32)
  | .dbgScratch => some (0xFFFFFFFF#32, 0#32)
  | .mcounten => some (0x00000005#32, 0#32)
  | _ => none

/-- The destination, the address and the written value of a CSR instruction that writes; `new` takes the value read
(R376). -/
structure CsrShape where
  rd : Reg
  addr : CsrAddr
  new : Word → Word

/-- CSRRW and CSRRWI (R380, R383); every other instruction is none. -/
def csrReplaceShape (s : State) : Instr → Option CsrShape
  | .csrrw rd a rs1 => some ⟨rd, a, fun _ => s.reg rs1⟩
  | .csrrwi rd a zimm => some ⟨rd, a, fun _ => zimm.setWidth 32⟩
  | _ => none

/-- The CSR instructions that write: CSRRW and CSRRWI, and the set and clear forms whose source is neither x0 nor
zimm 0 (R376, R380 to R385); every other instruction is none. -/
def csrWriteShape (s : State) : Instr → Option CsrShape
  | .csrrw rd a rs1 => some ⟨rd, a, fun _ => s.reg rs1⟩
  | .csrrwi rd a zimm => some ⟨rd, a, fun _ => zimm.setWidth 32⟩
  | .csrrs rd a rs1 => if rs1 = 0#5 then none else some ⟨rd, a, fun old => old ||| s.reg rs1⟩
  | .csrrc rd a rs1 => if rs1 = 0#5 then none else some ⟨rd, a, fun old => old &&& ~~~(s.reg rs1)⟩
  | .csrrsi rd a zimm => if zimm = 0#5 then none else some ⟨rd, a, fun old => old ||| zimm.setWidth 32⟩
  | .csrrci rd a zimm => if zimm = 0#5 then none else some ⟨rd, a, fun old => old &&& ~~~(zimm.setWidth 32)⟩
  | _ => none

/-- A CSR instruction completed with the old value `old` in `rd` (R375). -/
structure CsrDone (s t : State) (rd : Reg) (old : Word) : Prop where
  regs : RegResult s t rd old
  pc : t.pc = s.pc + 4#32
  memory : SameMemory s t

/-- A CSR instruction that wrote `new` to the plain CSR `c`: its writable bits took `new`, its other bits read as they
always do, every other plain CSR reads as before, and no other state changed (R35 to R52, R375). -/
structure CsrPlainDone (s t : State) (rd : Reg) (c : Csr) (new mask fixed : Word) : Prop where
  done : CsrDone s t rd (s.readCsr c)
  counted : Counted s t
  written : t.readCsr c = (new &&& mask) ||| fixed
  others : ∀ d, (plainCsr s.cfg d).isSome = true → d ≠ c → t.readCsr d = s.readCsr d
  rest : t = { s with
    regs := t.regs, pc := t.pc, minstret := t.minstret, mstatusMie := t.mstatusMie, mstatusMpie := t.mstatusMpie,
    mieMsie := t.mieMsie, mieMtie := t.mieMtie, mieMeie := t.mieMeie, mtvecMode := t.mtvecMode,
    mscratch := t.mscratch, mepc := t.mepc, mcauseInt := t.mcauseInt, mcauseEc := t.mcauseEc, mtval := t.mtval,
    dbgScratch := t.dbgScratch, mcountenCy := t.mcountenCy, mcountenIr := t.mcountenIr }

/-- A write through CSRRW or CSRRWI completed on a register of the IPIC: only the IPIC, `rd`, the pc and the count
changed (R111, R125). -/
structure IpicDone (s t : State) (rd : Reg) (old : Word) : Prop where
  done : CsrDone s t rd old
  counted : Counted s t
  rest : t = { s with regs := t.regs, pc := t.pc, minstret := t.minstret, ipic := t.ipic }

/-- A write completed on a register of the breakpoint module. -/
structure BrkmDone (s t : State) (rd : Reg) (old : Word) : Prop where
  done : CsrDone s t rd old
  counted : Counted s t
  rest : t = { s with regs := t.regs, pc := t.pc, minstret := t.minstret, brkm := t.brkm }

/-! ## Invariants -/

/-- What the spec says always holds of the hart: x0 is 0, the pc is aligned as the C extension requires, MEPC[0] is 0,
MTVEC.MODE is 0 where vectored mode does not exist (R21, R26, R40, R42, R226). -/
structure HartInv (s : State) : Prop where
  legal : s.cfg.legal = true
  zero : s.regs[0] = 0#32
  aligned : s.cfg.alignPc s.pc = s.pc
  mepc : s.mepc.getLsbD 0 = false
  mode : s.cfg.vectIrqEn = false → s.mtvecMode = 0#2

/-- What holds of the units beside the hart: the number of breakpoints, the implemented bits of BPSELECT, the
divider's phase and the reserved HART0_Rst bit (R56, R140, R147, R201). -/
structure UnitInv (s : State) : Prop where
  breakpoints : s.brkm.bps.length = s.cfg.bpNum
  select : s.brkm.bpselect.toNat < 2 ^ s.cfg.bpWidth
  phase : s.timer.phase < max s.timer.coef.toNat 1
  reserved : s.dbgc.coreCtrl.hart0Rst = false

/-- The three memories have their canonical form. -/
structure MemoryInv (s : State) : Prop where
  tcm : s.tcm.wf = true
  ext : s.ext.wf = true
  extI : s.extI.wf = true

/-- The invariant of the machine. -/
structure Inv (s : State) : Prop where
  hart : HartInv s
  units : UnitInv s
  memory : MemoryInv s

end Sys2Proof.Machine
end

