-- ==== Sys2Proof/Certificates/Slice0/Obligations.lean ====
section
/-!
DEFINITION. The statements for the provers. Each docstring names the rules of spec/ that it formalises; where a
statement rests on a choice of the model, it names the log entry of notes/assumptions/.
-/

open Sys2Proof Sys2Proof.Machine

/-! ## Encoding -/

/-- R260 to R274: the bytes of every well-formed instruction, with any bytes after them, decode to that instruction and
leave exactly those bytes: no operand bit is dropped. -/
def Obligations.DecodeOfEncodeGivesInstruction : Prop :=
  ∀ (i : Instr) (rest : List Byte), i.wf = true → decode ((encode i).bytes ++ rest) = .ok (i, rest)

/-- R260 to R274: what decodes is a well-formed instruction, and the bytes read are its encoding: no two byte
sequences stand for one instruction. -/
def Obligations.EncodeOfDecodeGivesBytes : Prop :=
  ∀ (bytes rest : List Byte) (i : Instr), decode bytes = .ok (i, rest) →
    i.wf = true ∧ bytes = (encode i).bytes ++ rest

/-- Words that the spec prints with their meaning (R301, R311, R319, R331, R332, R335, R353, R359, R365, R366, R370,
R373, R383, R405, R422, R428, R429, R437, R445): a sanity statement. -/
def Obligations.PrintedWordsDecode : Prop :=
  decodeParcel (.c32 0x123452B7#32) = .ok (.lui 5#5 0x12345#20) ∧
  decodeParcel (.c32 0x40435293#32) = .ok (.srai 5#5 6#5 4#5) ∧
  decodeParcel (.c32 0x407352B3#32) = .ok (.sra 5#5 6#5 7#5) ∧
  decodeParcel (.c32 0x004300E7#32) = .ok (.jalr 1#5 6#5 4#12) ∧
  decodeParcel (.c32 0xFFDFF06F#32) = .ok (.jal 0#5 (BitVec.ofInt 21 (-4))) ∧
  decodeParcel (.c32 0xFE731CE3#32) = .ok (.bne 6#5 7#5 (BitVec.ofInt 13 (-8))) ∧
  decodeParcel (.c32 0xFFC32283#32) = .ok (.lw 5#5 6#5 (BitVec.ofInt 12 (-4))) ∧
  decodeParcel (.c32 0xFE732E23#32) = .ok (.sw 6#5 7#5 (BitVec.ofInt 12 (-4))) ∧
  decodeParcel (.c32 0x0FF0000F#32) = .ok (.fence 15#4 15#4) ∧
  decodeParcel (.c32 0x0000100F#32) = .ok .fenceI ∧
  decodeParcel (.c32 0x00000073#32) = .ok .ecall ∧
  decodeParcel (.c32 0x10500073#32) = .ok .wfi ∧
  decodeParcel (.c32 0x3408D2F3#32) = .ok (.csrrwi 5#5 0x340#12 17#5) ∧
  decodeParcel (.c32 0x027342B3#32) = .ok (.div 5#5 6#5 7#5) ∧
  decodeParcel (.c16 0x5D7C#16) = .ok (.cLw 7#3 2#3 124#7) ∧
  decodeParcel (.c16 0x7139#16) = .ok (.cAddi16sp (BitVec.ofInt 10 (-64))) ∧
  decodeParcel (.c16 0x7281#16) = .ok (.cLui 5#5 0x20#6) ∧
  decodeParcel (.c16 0xBFF5#16) = .ok (.cJ (BitVec.ofInt 12 (-4))) ∧
  decodeParcel (.c16 0x9302#16) = .ok (.cJalr 6#5)

/-- R281, R282 points 1 and 2, R449: with the C extension, a halfword that the manual does not list or annotates RES or
NSE raises IllegalInstruction with the halfword zero-extended, at the pc, and does nothing else. -/
def Obligations.ReservedCompressedRaiseIllegal : Prop :=
  ∀ (s : State) (h : Half), s.cfg.rvc = true →
    ((h.extractLsb' 0 2 = 0#2 ∧ h.extractLsb' 13 3 = 0#3 ∧ h.extractLsb' 5 8 = 0#8) ∨
     (h.extractLsb' 0 2 = 0#2 ∧ (h.extractLsb' 13 3 = 1#3 ∨ h.extractLsb' 13 3 = 3#3 ∨ h.extractLsb' 13 3 = 4#3 ∨
        h.extractLsb' 13 3 = 5#3 ∨ h.extractLsb' 13 3 = 7#3)) ∨
     (h.extractLsb' 0 2 = 1#2 ∧ h.extractLsb' 13 3 = 3#3 ∧ h.extractLsb' 12 1 = 0#1 ∧ h.extractLsb' 2 5 = 0#5) ∨
     (h.extractLsb' 0 2 = 1#2 ∧ h.extractLsb' 13 3 = 4#3 ∧ h.extractLsb' 12 1 = 1#1 ∧ h.extractLsb' 11 1 = 0#1) ∨
     (h.extractLsb' 0 2 = 1#2 ∧ h.extractLsb' 13 3 = 4#3 ∧ h.extractLsb' 12 1 = 1#1 ∧ h.extractLsb' 10 2 = 3#2) ∨
     (h.extractLsb' 0 2 = 2#2 ∧ h.extractLsb' 13 3 = 0#3 ∧ h.extractLsb' 12 1 = 1#1) ∨
     (h.extractLsb' 0 2 = 2#2 ∧ h.extractLsb' 13 3 = 2#3 ∧ h.extractLsb' 7 5 = 0#5) ∨
     (h.extractLsb' 0 2 = 2#2 ∧ (h.extractLsb' 13 3 = 1#3 ∨ h.extractLsb' 13 3 = 3#3 ∨ h.extractLsb' 13 3 = 5#3 ∨
        h.extractLsb' 13 3 = 7#3)) ∨
     h = 0x8002#16) →
    ∃ t, s.runParcel (.c16 h) = .next t ∧ TrapTaken s t false 2#4 s.pc (some (h.setWidth 32))

/-- R260, R266, R283, R400: an instruction of an extension that is off (a multiply or divide without M, a compressed
one without C), or under RV32E any well-formed instruction whose row uses a full 5-bit field as a register number and
holds 16 or more there, raises IllegalInstruction with its bits. Without C a fetched
halfword whose low bits are not 11 is its own trap value, zero-extended (R245, R523), but for the zero halfword it may be
the whole word fetched instead (R449; that either value can come is the model's reading, notes/assumptions/59.md). -/
def Obligations.AbsentInstructionsRaiseIllegal : Prop :=
  (∀ (s : State) (i : Instr) (rd rs1 rs2 : Reg), s.cfg.rvm = false →
    i ∈ [.mul rd rs1 rs2, .mulh rd rs1 rs2, .mulhsu rd rs1 rs2, .mulhu rd rs1 rs2, .div rd rs1 rs2, .divu rd rs1 rs2,
      .rem rd rs1 rs2, .remu rd rs1 rs2] →
    ∃ t, s.runParcel (encode i) = .next t ∧ TrapTaken s t false 2#4 s.pc (some (encode i).value)) ∧
  (∀ (s : State) (v : Word), s.cfg.rvc = false → s.pc.toNat % 4 = 0 → s.fetchWord s.pc s.pc = .ok v → v.toNat % 4 ≠ 3 →
    ∃ t tval, s.fetchAndRun = .next t ∧ TrapTaken s t false 2#4 s.pc (some tval) ∧
      (tval = BitVec.ofNat 32 (v.toNat % 65536) ∨ (v.toNat % 65536 = 0 ∧ tval = v))) ∧
  (∀ (s : State) (i : Instr) (r : Reg), s.cfg.rve = true → i.wf = true → r ∈ i.fullRegs → 16 ≤ r.toNat →
    ∃ t, s.runParcel (encode i) = .next t ∧ TrapTaken s t false 2#4 s.pc (some (encode i).value))

/-! ## The step -/

/-- R245, R515 steps 0 to 8: when the bytes at the pc decode to an instruction the configuration has, the step is exec
of that instruction; what the step adds is the single-step check after it (R193) and the host's moves of the step's
slot (notes/assumptions/6.md). That HART_DBG_CTRL.PC_Advmt_Dsbl changes nothing of it is the model's choice
(notes/assumptions/61.md). -/
def Obligations.StepRunsTheDecodedInstruction : Prop :=
  ∀ (s : State) (i : Instr) (rest : List Byte), AboutToExecute s → FetchReady s s.pc →
    (rest = [] → FetchReady s (s.pc + 2#32)) → decode (pcBytes s) = .ok (i, rest) → i.existsIn s.cfg = true →
    step s =
      match exec i s with
      | .next t => t.afterInstr.hostPhase s.slot.moves
      | .fault e => .fault e
      | .refused e => .refused e

/-- R260, R267, R281, R480, R515 step 7: when the bytes at the pc decode to nothing, or without the C extension do not
begin a 32-bit instruction, the hart takes IllegalInstruction with the instruction bits, the word or the zero-extended
halfword. The one code point that the spec leaves without an effect (R282 point 5) is apart. That a FENCE or FENCE.I
word with a fixed field that is not zero is among them is the model's reading (R265, U25, notes/assumptions/39.md), and
so is, without the C extension, that the trap value of a zero halfword is either itself (R523) or the whole word (R449)
(notes/assumptions/59.md). -/
def Obligations.UndecodableBytesRaiseIllegal : Prop :=
  ∀ s : State, AboutToExecute s → s.dbgc.resumed = false → FetchReady s s.pc → FetchReady s (s.pc + 2#32) →
    ((∃ e, decode (pcBytes s) = .error e ∧ e ≠ .undefinedCNop) ∨
      (s.cfg.rvc = false ∧ (instrByte s s.pc).toNat % 4 ≠ 3)) →
    ∃ t tval half, half = (instrByte s s.pc).toNat + 256 * (instrByte s (s.pc + 1#32)).toNat ∧
      s.hartStep = .next t ∧ TrapTaken s t false 2#4 s.pc (some tval) ∧
      ((half % 4 ≠ 3 ∧ tval = BitVec.ofNat 32 half) ∨
        ((half % 4 = 3 ∨ (s.cfg.rvc = false ∧ half = 0)) ∧
          tval = BitVec.ofNat 32 (half + 65536 * (instrByte s (s.pc + 2#32)).toNat
            + 16777216 * (instrByte s (s.pc + 3#32)).toNat)))

/-- R245, R252, R253, R472, R523: what a fetch gives: the word in memory, or one that the queue holds and the slot
names; a slot can name any queued word; prefetch queues what memory holds at that moment; the hart takes its parcel,
the halfword or the word, from the word it was given. A fetch that the instruction bus answers with an error takes
InstrAccessFault with the pc, or with pc + 2 when only the second half of a 32-bit instruction fails; nothing is
decoded or executed. That the slot names the stale words is the model's (notes/assumptions/22.md). -/
def Obligations.FetchResults : Prop :=
  (∀ (s : State) (a tval v : Word), s.fetchWord (wordAddr a) tval = .ok v →
    ((wordAddr a, v) ∈ s.fetchQueue ∧ (wordAddr a, v) ∈ s.slot.stale) ∨ (FetchReady s a ∧ v = memoryWord s a)) ∧
  (∀ (s : State) (a tval v : Word) (sl : Slot) (rest : List Slot), (wordAddr a, v) ∈ s.fetchQueue →
    s.env = sl :: rest → sl.stale = [(wordAddr a, v)] → s.fetchWord (wordAddr a) tval = .ok v) ∧
  (∀ (s : State) (a : Word), FetchReady s a →
    s.prefetch a = { s with fetchQueue := (wordAddr a, memoryWord s a) :: s.fetchQueue }) ∧
  (∀ (s : State) (v : Word), s.pc.toNat % 4 = 0 → s.fetchWord s.pc s.pc = .ok v →
    s.fetch = .ok (if v.toNat % 4 ≠ 3 then .c16 (v.extractLsb' 0 16) else .c32 v)) ∧
  (∀ s : State, s.slot.stale = [] ∨ s.fetchQueue = [] → FetchFails s s.pc →
    ∃ t, s.fetchAndRun = .next t ∧ TrapTaken s t false 1#4 s.pc (some s.pc)) ∧
  (∀ s : State, s.slot.stale = [] ∨ s.fetchQueue = [] → s.pc.getLsbD 0 = false → FetchReady s s.pc →
    (instrByte s s.pc).toNat % 4 = 3 → FetchFails s (s.pc + 2#32) →
    ∃ t, s.fetchAndRun = .next t ∧ TrapTaken s t false 1#4 s.pc (some (s.pc + 2#32)))

/-- R510, R511, R512, R520: at a boundary with MSTATUS.MIE set and an enabled interrupt pending, in Run-Mode and with
CORE_DBG_CTRL.Irq_Dsbl clear, the hart takes the interrupt, external before software before timer, with the address of
the instruction that had not executed; waiting or not, no instruction executes. INTERRUPT_LATENCY_ZERO is the model's
choice (notes/assumptions/20.md). -/
def Obligations.PendingInterruptIsTaken : Prop :=
  ∀ (s : State) (code : BitVec 4), s.resetAsserted = false → s.inReset = false → s.dbgc.dmode = false →
    s.mstatusMie = true → s.dbgc.coreCtrl.irqDsbl = false → s.cfg.interruptLatencyZero = true →
    ((s.mieMeie = true ∧ s.meip = true ∧ code = 11#4) ∨
     (¬(s.mieMeie = true ∧ s.meip = true) ∧ s.mieMsie = true ∧ s.msip = true ∧ code = 3#4) ∨
     (¬(s.mieMeie = true ∧ s.meip = true) ∧ ¬(s.mieMsie = true ∧ s.msip = true) ∧ s.mieMtie = true ∧
        s.timer.mtimecmp.toNat ≤ s.timer.mtime.toNat ∧ code = 7#4)) →
    ∃ t, s.hartStep = .next t ∧ TrapTaken s t true code s.pc none

/-- R515 steps 1 and 3, R550, R555: a waiting hart with MIP & MIE zero, and a hart in Debug-Mode, do nothing; a waiting
hart with an enabled interrupt pending and MSTATUS.MIE clear executes its next instruction, whatever
CORE_DBG_CTRL.Irq_Dsbl is, which is the model's choice (R201, notes/assumptions/58.md). -/
def Obligations.WaitAndDebugModeExecuteNothing : Prop :=
  (∀ s : State, s.resetAsserted = false → s.inReset = false → s.dbgc.dmode = false → s.waiting = true →
    s.readCsr .mip &&& s.readCsr .mie = 0#32 → s.hartStep = .next s) ∧
  (∀ s : State, s.resetAsserted = false → s.inReset = false → s.dbgc.dmode = true → s.hartStep = .next s) ∧
  (∀ s : State, s.resetAsserted = false → s.inReset = false → s.dbgc.dmode = false → s.waiting = true →
    s.readCsr .mip &&& s.readCsr .mie ≠ 0#32 → s.mstatusMie = false →
    s.hartStep = mapNext ({ s with waiting := false }.instrStep) State.afterInstr)

/-- R36, R62, R205, R571: the state after reset: the hart, its CSRs with their mirrors and constants, the timer, the
debug registers. Three parts rest on the model: the constants are those of the default configuration record
(notes/assumptions/1.md), with the reading of MISA that R36 chose (D9); that no byte of memory holds a value is
notes/assumptions/4.md; that MIP is 0 and no interrupt can be taken rests on idle lines and an IPIC of zeros
(notes/assumptions/9.md). -/
def Obligations.ResetStateValues : Prop :=
  AtReset State.reset ∧ State.reset.pc = 0x200#32 ∧ State.reset.readCsr .mtvec = 0x1C0#32 ∧
    State.reset.readCsr .mip = 0#32 ∧ State.reset.readCsr .mvendorid = 0#32 ∧ State.reset.readCsr .marchid = 0#32 ∧
    State.reset.readCsr .mimpid = 0x17081800#32 ∧ State.reset.readCsr .mhartid = State.reset.cfg.hartidFuse ∧
    State.reset.readCsr .time = 0#32 ∧ State.reset.readCsr .timeh = 0#32 ∧
    State.reset.readCsr .cycle = State.reset.readCsr .mcycle ∧ State.reset.readCsr .cycleh = State.reset.readCsr .mcycleh ∧
    State.reset.readCsr .instret = State.reset.readCsr .minstret ∧
    State.reset.readCsr .instreth = State.reset.readCsr .minstreth ∧
    State.reset.readCsr .misa = 0x40001104#32 ||| (if State.reset.cfg.misaRvx = true then 0x00800000#32 else 0#32) ∧
    State.reset.dbgc.hartCtrlWord = 0#32 ∧ State.reset.hartStsWord = 0x30#32 ∧ State.reset.dbgc.dmodeEnblWord = 0#32 ∧
    State.reset.dbgc.dmodeCauseWord = 0#32 ∧ State.reset.dbgc.coreInstr = 0#32 ∧ State.reset.dbgc.pcSample = 0#32 ∧
    State.reset.dbgc.coreCtrlWord = 0#32 ∧ State.reset.coreStsWord = 0xC0#32 ∧ debugIdValue = 0x00800004#32 ∧
    targetIdValue State.reset.cfg = 0x01801000#32 ∧
    (∀ a, Memory.byteAt State.reset.tcm a = none ∧ Memory.byteAt State.reset.ext a = none ∧
      Memory.byteAt State.reset.extI a = none) ∧
    State.reset.takesInterrupt = false ∧ State.reset.resetAsserted = false

/-- R13, R570, R571, R572: while a reset source is asserted the hart executes nothing and its state is held at the reset
values, from the move that asserts the source on, whatever the host does meanwhile, and it leaves reset with them; the
memories and the platform's lines stay. Three points are the model's choices: the polarity of SYS_CTRL
(notes/assumptions/44.md), that DBG_SCRATCH is cleared under dbgcore_rst_ctrl alone (notes/assumptions/53.md), and that a
Halt given while dbgcore_rst_ctrl holds the core leaves no Debug-Mode (notes/assumptions/62.md). -/
def Obligations.AssertedResetHoldsResetValues : Prop :=
  (∀ s : State, s.cfg.legal = true → s.resetAsserted = true →
    ∃ t, s.hartStep = .next t ∧ AtReset t ∧ SameMemory s t ∧ t.cfg = s.cfg ∧ t.pins = s.pins ∧ t.inReset = true) ∧
  (∀ (s t : State) (m : HostMove), s.cfg.legal = true → applyMoves [m] s = .ok t → t.resetAsserted = true →
    AtReset t ∧ SameMemory s t ∧ t.inReset = true) ∧
  (∀ s : State, s.cfg.legal = true →
    ∃ t, applyMoves [.rstN true, .rstN false] s = .ok t ∧ AtReset t ∧ SameMemory s t ∧ t.inReset = true)

/-! ## Invariants -/

/-- R21, R26, R40, R42, R140, R147: the invariant holds of the state after reset. -/
def Obligations.InvariantHoldsAtReset : Prop := Inv State.reset

/-- R21, R26, R40, R42, R56, R140, R147, R201: whatever instruction, trap, reset or move of the host a step makes, from
every state that meets the invariant it leaves a state that meets it. -/
def Obligations.EveryStepKeepsTheInvariant : Prop :=
  ∀ s t : State, Inv s → step s = .next t → Inv t

/-- R7, R36: no step changes a build or platform parameter; software cannot switch an extension on or off. -/
def Obligations.NoStepChangesTheConfiguration : Prop :=
  ∀ s t : State, step s = .next t → t.cfg = s.cfg

/-- R27, R56, R125, R379, R526: an instruction that is no CSR instruction leaves the interrupt enables, MTVEC, MSCRATCH,
MCOUNTEN, DBG_SCRATCH, mcycle, the IPIC, and all of the breakpoint module but MATCHED bits (its skip state included) as
they are; MSTATUS, MEPC, MCAUSE and MTVAL change by trap entry only, but for MRET, which changes MSTATUS. -/
def Obligations.OnlyCsrInstructionsWriteControlState : Prop :=
  ∀ (i : Instr) (s t : State), (∀ rd a rs1, i ≠ .csrrw rd a rs1 ∧ i ≠ .csrrs rd a rs1 ∧ i ≠ .csrrc rd a rs1 ∧
      i ≠ .csrrwi rd a rs1 ∧ i ≠ .csrrsi rd a rs1 ∧ i ≠ .csrrci rd a rs1) →
    exec i s = .next t →
    t.mieMsie = s.mieMsie ∧ t.mieMtie = s.mieMtie ∧ t.mieMeie = s.mieMeie ∧ t.mtvecMode = s.mtvecMode ∧
    t.mscratch = s.mscratch ∧ t.mcountenCy = s.mcountenCy ∧ t.mcountenIr = s.mcountenIr ∧
    t.dbgScratch = s.dbgScratch ∧ t.mcycle = s.mcycle ∧ t.ipic = s.ipic ∧ t.pins = s.pins ∧
    t.brkm.bpselect = s.brkm.bpselect ∧ t.brkm.mode = s.brkm.mode ∧ t.brkm.bpISkip = s.brkm.bpISkip ∧
    t.brkm.skipArmed = s.brkm.skipArmed ∧
    t.brkm.bps.map (fun b => { b with matched := false }) = s.brkm.bps.map (fun b => { b with matched := false }) ∧
    ((t.mstatusMie = s.mstatusMie ∧ t.mstatusMpie = s.mstatusMpie ∧ t.mepc = s.mepc ∧ t.mcauseInt = s.mcauseInt ∧
        t.mcauseEc = s.mcauseEc ∧ t.mtval = s.mtval) ∨
     (t.mstatusMie = false ∧ t.mstatusMpie = s.mstatusMie ∧ t.mcauseInt = false ∧ t.mepc = s.pc &&& 0xFFFFFFFE#32 ∧
        t.minstret = s.minstret) ∨
     (i = .mret ∧ t.mstatusMie = s.mstatusMpie ∧ t.mstatusMpie = true ∧ t.mepc = s.mepc ∧ t.mcauseInt = s.mcauseInt ∧
        t.mcauseEc = s.mcauseEc ∧ t.mtval = s.mtval))

/-! ## Integer instructions (spec/40_rv32i_integer.md) -/

/-- R301, R302, R322: LUI and AUIPC, for every rd and immediate. -/
def Obligations.UpperImmediateResults : Prop :=
  ∀ (s : State) (rd : Reg) (imm : BitVec 20),
    Answers (.lui rd imm) s (fun t => RegDone s t rd (BitVec.ofNat 32 (imm.toNat * 4096)) (s.pc + 4#32)) ∧
    Answers (.auipc rd imm) s (fun t =>
      RegDone s t rd (BitVec.ofNat 32 (s.pc.toNat + imm.toNat * 4096)) (s.pc + 4#32))

/-- R303 to R308, R322: ADDI, SLTI, SLTIU, XORI, ORI, ANDI; the immediate is sign-extended first. -/
def Obligations.RegisterImmediateResults : Prop :=
  ∀ (s : State) (rd rs1 : Reg) (imm : BitVec 12),
    Answers (.addi rd rs1 imm) s (fun t =>
      RegDone s t rd (BitVec.ofInt 32 ((s.reg rs1).toInt + imm.toInt)) (s.pc + 4#32)) ∧
    Answers (.slti rd rs1 imm) s (fun t =>
      RegDone s t rd (if (s.reg rs1).toInt < imm.toInt then 1#32 else 0#32) (s.pc + 4#32)) ∧
    Answers (.sltiu rd rs1 imm) s (fun t =>
      RegDone s t rd (if (s.reg rs1).toNat < (BitVec.ofInt 32 imm.toInt).toNat then 1#32 else 0#32) (s.pc + 4#32)) ∧
    Answers (.xori rd rs1 imm) s (fun t =>
      RegDone s t rd (s.reg rs1 ^^^ BitVec.ofInt 32 imm.toInt) (s.pc + 4#32)) ∧
    Answers (.ori rd rs1 imm) s (fun t =>
      RegDone s t rd (s.reg rs1 ||| BitVec.ofInt 32 imm.toInt) (s.pc + 4#32)) ∧
    Answers (.andi rd rs1 imm) s (fun t =>
      RegDone s t rd (s.reg rs1 &&& BitVec.ofInt 32 imm.toInt) (s.pc + 4#32))

/-- R312, R313, R315 to R317, R320 to R322: ADD, SUB, SLT, SLTU, XOR, OR, AND; the sources are read before rd is
written. -/
def Obligations.RegisterRegisterResults : Prop :=
  ∀ (s : State) (rd rs1 rs2 : Reg),
    Answers (.add rd rs1 rs2) s (fun t =>
      RegDone s t rd (BitVec.ofNat 32 ((s.reg rs1).toNat + (s.reg rs2).toNat)) (s.pc + 4#32)) ∧
    Answers (.sub rd rs1 rs2) s (fun t =>
      RegDone s t rd (BitVec.ofInt 32 ((s.reg rs1).toInt - (s.reg rs2).toInt)) (s.pc + 4#32)) ∧
    Answers (.slt rd rs1 rs2) s (fun t =>
      RegDone s t rd (if (s.reg rs1).toInt < (s.reg rs2).toInt then 1#32 else 0#32) (s.pc + 4#32)) ∧
    Answers (.sltu rd rs1 rs2) s (fun t =>
      RegDone s t rd (if (s.reg rs1).toNat < (s.reg rs2).toNat then 1#32 else 0#32) (s.pc + 4#32)) ∧
    Answers (.xor rd rs1 rs2) s (fun t => RegDone s t rd (s.reg rs1 ^^^ s.reg rs2) (s.pc + 4#32)) ∧
    Answers (.or rd rs1 rs2) s (fun t => RegDone s t rd (s.reg rs1 ||| s.reg rs2) (s.pc + 4#32)) ∧
    Answers (.and rd rs1 rs2) s (fun t => RegDone s t rd (s.reg rs1 &&& s.reg rs2) (s.pc + 4#32))

/-- R309 to R311, R314, R318, R319, R322: the six shifts as multiplication and floor division by 2^amount; a register
amount is the low five bits of rs2, and the upper 27 are ignored. -/
def Obligations.ShiftResults : Prop :=
  ∀ (s : State) (rd rs1 rs2 shamt : Reg),
    Answers (.slli rd rs1 shamt) s (fun t =>
      RegDone s t rd (BitVec.ofNat 32 ((s.reg rs1).toNat * 2 ^ shamt.toNat)) (s.pc + 4#32)) ∧
    Answers (.srli rd rs1 shamt) s (fun t =>
      RegDone s t rd (BitVec.ofNat 32 ((s.reg rs1).toNat / 2 ^ shamt.toNat)) (s.pc + 4#32)) ∧
    Answers (.srai rd rs1 shamt) s (fun t =>
      RegDone s t rd (BitVec.ofInt 32 ((s.reg rs1).toInt / 2 ^ shamt.toNat)) (s.pc + 4#32)) ∧
    Answers (.sll rd rs1 rs2) s (fun t =>
      RegDone s t rd (BitVec.ofNat 32 ((s.reg rs1).toNat * 2 ^ ((s.reg rs2).toNat % 32))) (s.pc + 4#32)) ∧
    Answers (.srl rd rs1 rs2) s (fun t =>
      RegDone s t rd (BitVec.ofNat 32 ((s.reg rs1).toNat / 2 ^ ((s.reg rs2).toNat % 32))) (s.pc + 4#32)) ∧
    Answers (.sra rd rs1 rs2) s (fun t =>
      RegDone s t rd (BitVec.ofInt 32 ((s.reg rs1).toInt / 2 ^ ((s.reg rs2).toNat % 32))) (s.pc + 4#32))

/-- R401 to R404: the low word, and the high words of the three products (floor division by 2^32 is bits 63..32 of the
two's complement product). -/
def Obligations.MultiplyResults : Prop :=
  ∀ (s : State) (rd rs1 rs2 : Reg),
    Answers (.mul rd rs1 rs2) s (fun t =>
      RegDone s t rd (BitVec.ofInt 32 ((s.reg rs1).toInt * (s.reg rs2).toInt)) (s.pc + 4#32)) ∧
    Answers (.mulh rd rs1 rs2) s (fun t =>
      RegDone s t rd (BitVec.ofInt 32 ((s.reg rs1).toInt * (s.reg rs2).toInt / 2 ^ 32)) (s.pc + 4#32)) ∧
    Answers (.mulhsu rd rs1 rs2) s (fun t =>
      RegDone s t rd (BitVec.ofInt 32 ((s.reg rs1).toInt * ((s.reg rs2).toNat : Int) / 2 ^ 32)) (s.pc + 4#32)) ∧
    Answers (.mulhu rd rs1 rs2) s (fun t =>
      RegDone s t rd (BitVec.ofNat 32 ((s.reg rs1).toNat * (s.reg rs2).toNat / 2 ^ 32)) (s.pc + 4#32))

/-- R405 to R408: DIV, DIVU, REM, REMU, truncating toward zero; a zero divisor gives all ones and the dividend, and
the signed overflow gives the dividend and 0, without a trap. -/
def Obligations.DivideResults : Prop :=
  ∀ (s : State) (rd rs1 rs2 : Reg),
    Answers (.div rd rs1 rs2) s (fun t =>
      RegDone s t rd
        (if s.reg rs2 = 0#32 then 0xFFFFFFFF#32
         else if s.reg rs1 = 0x80000000#32 ∧ s.reg rs2 = 0xFFFFFFFF#32 then 0x80000000#32
         else BitVec.ofInt 32 ((s.reg rs1).toInt.tdiv (s.reg rs2).toInt)) (s.pc + 4#32)) ∧
    Answers (.divu rd rs1 rs2) s (fun t =>
      RegDone s t rd
        (if s.reg rs2 = 0#32 then 0xFFFFFFFF#32 else BitVec.ofNat 32 ((s.reg rs1).toNat / (s.reg rs2).toNat))
        (s.pc + 4#32)) ∧
    Answers (.rem rd rs1 rs2) s (fun t =>
      RegDone s t rd
        (if s.reg rs2 = 0#32 then s.reg rs1
         else if s.reg rs1 = 0x80000000#32 ∧ s.reg rs2 = 0xFFFFFFFF#32 then 0#32
         else BitVec.ofInt 32 ((s.reg rs1).toInt.tmod (s.reg rs2).toInt)) (s.pc + 4#32)) ∧
    Answers (.remu rd rs1 rs2) s (fun t =>
      RegDone s t rd
        (if s.reg rs2 = 0#32 then s.reg rs1 else BitVec.ofNat 32 ((s.reg rs1).toNat % (s.reg rs2).toNat))
        (s.pc + 4#32))

/-- R409: run on the same operands, the quotient times the divisor plus the remainder is the dividend, for every pair of
operands, zero divisor and overflow included; and MULH ++ MUL, MULHU ++ MUL are the 64-bit products. -/
def Obligations.MultiplyDivideIdentities : Prop :=
  ∀ (s : State) (rs1 rs2 : Reg) (q r qu ru lo hi hu : State),
    exec (.div 5#5 rs1 rs2) s = .next q → exec (.rem 5#5 rs1 rs2) s = .next r →
    exec (.divu 5#5 rs1 rs2) s = .next qu → exec (.remu 5#5 rs1 rs2) s = .next ru →
    exec (.mul 5#5 rs1 rs2) s = .next lo → exec (.mulh 5#5 rs1 rs2) s = .next hi →
    exec (.mulhu 5#5 rs1 rs2) s = .next hu →
    q.reg 5#5 * s.reg rs2 + r.reg 5#5 = s.reg rs1 ∧ qu.reg 5#5 * s.reg rs2 + ru.reg 5#5 = s.reg rs1 ∧
    (hi.reg 5#5).toInt * 2 ^ 32 + ((lo.reg 5#5).toNat : Int) = (s.reg rs1).toInt * (s.reg rs2).toInt ∧
    (hu.reg 5#5).toNat * 2 ^ 32 + (lo.reg 5#5).toNat = (s.reg rs1).toNat * (s.reg rs2).toNat

/-! ## Control transfer (spec/41_rv32i_control.md) -/

/-- R330 to R332, R340: JAL and JALR with a target aligned as R226 requires: the link in rd, JALR's target with bit 0
cleared and rs1 read before rd is written. -/
def Obligations.JumpResults : Prop :=
  ∀ (s : State) (rd rs1 : Reg) (off : BitVec 21) (imm : BitVec 12) (target : Word),
    (target = BitVec.ofInt 32 (s.pc.toInt + off.toInt) → (s.cfg.rvc = true ∨ target.getLsbD 1 = false) →
      Answers (.jal rd off) s (fun t => RegDone s t rd (s.pc + 4#32) target)) ∧
    (target = BitVec.ofInt 32 ((s.reg rs1).toInt + imm.toInt) &&& 0xFFFFFFFE#32 →
      (s.cfg.rvc = true ∨ target.getLsbD 1 = false) →
      Answers (.jalr rd rs1 imm) s (fun t => RegDone s t rd (s.pc + 4#32) target))

/-- R330, R333 to R339: the six branches; a branch that is not taken needs no alignment. -/
def Obligations.BranchResults : Prop :=
  ∀ (s : State) (rs1 rs2 : Reg) (off : BitVec 13) (target : Word),
    target = BitVec.ofInt 32 (s.pc.toInt + off.toInt) →
    ((s.cfg.rvc = true ∨ target.getLsbD 1 = false ∨ s.reg rs1 ≠ s.reg rs2) →
      Answers (.beq rs1 rs2 off) s (fun t => FlowDone s t (if s.reg rs1 = s.reg rs2 then target else s.pc + 4#32))) ∧
    ((s.cfg.rvc = true ∨ target.getLsbD 1 = false ∨ s.reg rs1 = s.reg rs2) →
      Answers (.bne rs1 rs2 off) s (fun t => FlowDone s t (if s.reg rs1 = s.reg rs2 then s.pc + 4#32 else target))) ∧
    ((s.cfg.rvc = true ∨ target.getLsbD 1 = false ∨ ¬(s.reg rs1).toInt < (s.reg rs2).toInt) →
      Answers (.blt rs1 rs2 off) s (fun t =>
        FlowDone s t (if (s.reg rs1).toInt < (s.reg rs2).toInt then target else s.pc + 4#32))) ∧
    ((s.cfg.rvc = true ∨ target.getLsbD 1 = false ∨ (s.reg rs1).toInt < (s.reg rs2).toInt) →
      Answers (.bge rs1 rs2 off) s (fun t =>
        FlowDone s t (if (s.reg rs2).toInt ≤ (s.reg rs1).toInt then target else s.pc + 4#32))) ∧
    ((s.cfg.rvc = true ∨ target.getLsbD 1 = false ∨ ¬(s.reg rs1).toNat < (s.reg rs2).toNat) →
      Answers (.bltu rs1 rs2 off) s (fun t =>
        FlowDone s t (if (s.reg rs1).toNat < (s.reg rs2).toNat then target else s.pc + 4#32))) ∧
    ((s.cfg.rvc = true ∨ target.getLsbD 1 = false ∨ (s.reg rs1).toNat < (s.reg rs2).toNat) →
      Answers (.bgeu rs1 rs2 off) s (fun t =>
        FlowDone s t (if (s.reg rs2).toNat ≤ (s.reg rs1).toNat then target else s.pc + 4#32)))

/-- R330, R471: without the C extension a jump or taken branch whose target has bit 1 set raises InstrAddrMisaligned
itself, with the target as trap value; rd is not written and the instruction is not counted. -/
def Obligations.MisalignedTargetRaises : Prop :=
  ∀ (s : State) (rd rs1 rs2 : Reg) (joff : BitVec 21) (imm : BitVec 12) (off : BitVec 13), s.cfg.rvc = false →
    ((s.pc + joff.signExtend 32).getLsbD 1 = true →
      Traps (.jal rd joff) s 0#4 (some (s.pc + joff.signExtend 32))) ∧
    ((s.reg rs1 + imm.signExtend 32).getLsbD 1 = true →
      Traps (.jalr rd rs1 imm) s 0#4 (some ((s.reg rs1 + imm.signExtend 32) &&& 0xFFFFFFFE#32))) ∧
    ((s.pc + off.signExtend 32).getLsbD 1 = true →
      (s.reg rs1 = s.reg rs2 → Traps (.beq rs1 rs2 off) s 0#4 (some (s.pc + off.signExtend 32))) ∧
      (s.reg rs1 ≠ s.reg rs2 → Traps (.bne rs1 rs2 off) s 0#4 (some (s.pc + off.signExtend 32))) ∧
      ((s.reg rs1).toInt < (s.reg rs2).toInt → Traps (.blt rs1 rs2 off) s 0#4 (some (s.pc + off.signExtend 32))) ∧
      ((s.reg rs2).toInt ≤ (s.reg rs1).toInt → Traps (.bge rs1 rs2 off) s 0#4 (some (s.pc + off.signExtend 32))) ∧
      ((s.reg rs1).toNat < (s.reg rs2).toNat → Traps (.bltu rs1 rs2 off) s 0#4 (some (s.pc + off.signExtend 32))) ∧
      ((s.reg rs2).toNat ≤ (s.reg rs1).toNat → Traps (.bgeu rs1 rs2 off) s 0#4 (some (s.pc + off.signExtend 32))))

/-! ## Loads, stores and fences (spec/42_rv32i_loadstore.md) -/

/-- R242, R243, R350 to R355, R422, R441: the seven loads from the TCM and from external memory, when no breakpoint
matches: rd holds the little-endian value of the bytes, extended; no byte of memory changes. A byte that nothing has
written reads as a free value (R237, R239, notes/assumptions/4.md). -/
def Obligations.LoadResults : Prop :=
  ∀ (s : State) (i : Instr) (f : LoadShape), loadShape s i = some f → s.bpQuiet .load f.addr f.size = true →
    (∀ off, GoesToTcm s.cfg f.addr f.size off →
      Answers i s (fun t =>
        RegDone s t f.rd (extended f.ext f.size (leNat (s.byte .tcm) off f.size)) (s.pc + f.len))) ∧
    (GoesToExt s.cfg .load f.addr f.size →
      Answers i s (fun t =>
        RegDone s t f.rd (extended f.ext f.size (leNat (s.byte .ext) f.addr.toNat f.size)) (s.pc + f.len)))

/-- R100 to R105, R243: LW, C.LW and C.LWSP of a timer register. -/
def Obligations.TimerLoadResults : Prop :=
  ∀ (s : State) (i : Instr) (f : LoadShape) (off : Nat), loadShape s i = some f → f.size = 4 →
    s.bpQuiet .load f.addr f.size = true → GoesToTimer s.cfg f.addr off →
    Answers i s (fun t => RegDone s t f.rd (BitVec.ofNat 32 (timerValue s.timer off)) (s.pc + f.len))

/-- R242, R244, R356 to R359, R423, R448: the five stores to the TCM and to external memory, when no breakpoint
matches: the low bytes of rs2 at the effective address, every other byte, every register and all other state
unchanged. -/
def Obligations.StoreResults : Prop :=
  ∀ (s : State) (i : Instr) (f : StoreShape), storeShape s i = some f → s.bpQuiet .store f.addr f.size = true →
    (∀ off, GoesToTcm s.cfg f.addr f.size off → Answers i s (fun t => TcmStoreDone s t f off)) ∧
    (GoesToExt s.cfg .store f.addr f.size → Answers i s (fun t => ExtStoreDone s t f))

/-- R101 to R105, R244: SW, C.SW and C.SWSP to a timer register; the other half and the other registers keep their
values, and the divider's phase is any legal one after a write to MTIME or MTIMECLKSET (U20, notes/assumptions/11.md). -/
def Obligations.TimerStoreResults : Prop :=
  ∀ (s : State) (i : Instr) (f : StoreShape) (off : Nat), storeShape s i = some f → f.size = 4 →
    s.bpQuiet .store f.addr f.size = true → GoesToTimer s.cfg f.addr off →
    Answers i s (fun t => TimerStoreDone s t f off)

/-- R104, R223, R240, R474 to R477: a load or store at an address that is no multiple of its size raises
LoadAddrMisaligned or StoreAddrMisaligned, and an aligned one that gets no answer LoadAccessFault or StoreAccessFault,
with the address; neither register nor memory nor timer changes. -/
def Obligations.FailingAccessesRaise : Prop :=
  ∀ (s : State) (i : Instr),
    (∀ f, loadShape s i = some f → s.bpQuiet .load f.addr f.size = true →
      (f.addr.toNat % f.size ≠ 0 → Traps i s 4#4 (some f.addr)) ∧
      (GetsNoAnswer s.cfg .load f.addr f.size → Traps i s 5#4 (some f.addr))) ∧
    (∀ f, storeShape s i = some f → s.bpQuiet .store f.addr f.size = true →
      (f.addr.toNat % f.size ≠ 0 → Traps i s 6#4 (some f.addr)) ∧
      (GetsNoAnswer s.cfg .store f.addr f.size → Traps i s 7#4 (some f.addr)))

/-- R104 (U21), R237 (U22), R239: where the spec says that nothing is defined, the model stops by name: a word at the
timer window's offsets 0x14, 0x18, 0x1C, the TCM window beyond TCM_SIZE, a device (notes/assumptions/36.md, 37.md,
38.md). -/
def Obligations.UndefinedPlacesStopByName : Prop :=
  ∀ (s : State) (i : Instr) (k : BpKind) (a : Word) (n : Nat),
    ((∃ f, loadShape s i = some f ∧ k = .load ∧ a = f.addr ∧ n = f.size) ∨
      (∃ f, storeShape s i = some f ∧ k = .store ∧ a = f.addr ∧ n = f.size)) →
    s.bpQuiet k a n = true → a.toNat % n = 0 →
    (s.cfg.inTimer a = true → n = 4 → timerRegister (s.cfg.timerOffset a) = false →
      exec i s = .fault .timerReservedOffset) ∧
    (s.cfg.inTimer a = false → s.cfg.inTcm a = true → s.cfg.tcmSize < s.cfg.tcmOffset a + n →
      exec i s = .fault .tcmBeyondSize) ∧
    (s.cfg.inTimer a = false → s.cfg.inTcm a = false → s.cfg.isDevice a.toNat n = true →
      s.cfg.dataAccessible a.toNat n .load = true → s.cfg.dataAccessible a.toNat n .store = true →
      exec i s = .refused .deviceAccess)

/-- R242 to R244, R250: a load of the size and address of the store before it gives the stored bytes, extended. -/
def Obligations.LoadAfterStoreGivesStoredValue : Prop :=
  ∀ (s u : State) (i j : Instr) (f : StoreShape) (g : LoadShape), storeShape s i = some f → exec i s = .next u →
    loadShape u j = some g → g.addr = f.addr → g.size = f.size → s.bpQuiet .store f.addr f.size = true →
    u.bpQuiet .load g.addr g.size = true →
    ((∃ off, GoesToTcm s.cfg f.addr f.size off) ∨
      (GoesToExt s.cfg .store f.addr f.size ∧ GoesToExt s.cfg .load f.addr f.size)) →
    Answers j u (fun t => RegDone u t g.rd (extended g.ext g.size (f.value.toNat % 256 ^ f.size)) (u.pc + g.len))

/-- R251, R366: FENCE is a NOP whatever pred and succ are: the pc passes it, the instruction is counted (R48) and
nothing else changes. FENCE.I is the one word 0x0000100F: it empties the instruction fetch queue as well and changes
nothing else; every fetch after it reads memory, so that a word stored before it is the word fetched, unless
instruction memory is separate, where no store of data shows. -/
def Obligations.FenceResults : Prop :=
  (∀ (s : State) (pred succ : BitVec 4),
    Answers (.fence pred succ) s (fun t => FlowDone s t (s.pc + 4#32)) ∧
    Answers .fenceI s (fun t => t.fetchQueue = [] ∧ t.pc = s.pc + 4#32 ∧ SameRegs s t ∧ Counted s t ∧ SameMemory s t ∧
      t = { s with fetchQueue := t.fetchQueue, pc := t.pc, minstret := t.minstret } ∧
      ∀ a tval, FetchReady t a → t.fetchWord (wordAddr a) tval = .ok (memoryWord t a))) ∧
  encode .fenceI = .c32 0x0000100F#32 ∧ decodeParcel (.c32 0x0000100F#32) = .ok .fenceI ∧
  (∀ (s t u : State) (i : Instr) (f : StoreShape) (a : Word), storeShape s i = some f →
    s.bpQuiet .store f.addr f.size = true → exec i s = .next t → exec .fenceI t = .next u →
    GoesToExt s.cfg .store f.addr f.size → s.cfg.unifiedExternalMemory = false → memoryWord u a = memoryWord s a) ∧
  (∀ (s t u : State) (i : Instr) (f : StoreShape) (tval : Word), storeShape s i = some f → f.size = 4 →
    s.bpQuiet .store f.addr 4 = true → exec i s = .next t → exec .fenceI t = .next u →
    ((∃ off, GoesToTcm s.cfg f.addr 4 off) ∨
      (GoesToExt s.cfg .store f.addr 4 ∧ s.cfg.unifiedExternalMemory = true ∧ FetchReady s f.addr)) →
    u.fetchWord f.addr tval = .ok f.value)

/-! ## System instructions and traps (spec/43_rv32i_system.md, spec/60_exceptions.md) -/

/-- R370, R371, R447, R449, R473, R478: ECALL, EBREAK, C.EBREAK and the defined illegal halfword take their exceptions
at their own address; EBREAK's trap value is any value, and with HART_DMODE_ENBL.Brkpt set its
event enters Debug-Mode with cause Brkpt instead, the pc and the trap CSRs unchanged (R555). -/
def Obligations.TrapInstructionsTakeTheirExceptions : Prop :=
  (∀ s : State, Traps .ecall s 11#4 (some 0#32)) ∧
  (∀ s : State, Traps .cIllegal s 2#4 (some 0#32)) ∧
  (∀ s : State, s.cfg.dbgcEn = false ∨ s.dbgc.dmodeEnbl.brkpt = false →
    Traps .ebreak s 3#4 none ∧ Traps .cEbreak s 3#4 none) ∧
  (∀ s : State, s.cfg.dbgcEn = true → s.dbgc.dmodeEnbl.brkpt = true →
    Answers .ebreak s (fun t => DebugEntered s t ∧ t.dbgc.dmodeCause.brkpt = true) ∧
    Answers .cEbreak s (fun t => DebugEntered s t ∧ t.dbgc.dmodeCause.brkpt = true))

/-- R520, R521: trap entry, for an exception and an interrupt alike, from every state: what it saves and that it changes
nothing else. -/
def Obligations.TrapEntrySavesAndMasks : Prop :=
  ∀ (s : State) (int : Bool) (code : BitVec 4) (epc tval : Word),
    TrapTaken s (s.trapEntry int code epc tval) int code epc (some tval)

/-- R372, R524: MRET restores MIE from MPIE, sets MPIE, goes to MEPC and changes nothing else; it is counted. Without
the C extension and with MEPC[1] set the spec covers nothing, and the model refuses (U9, notes/assumptions/16.md). -/
def Obligations.MretReturns : Prop :=
  (∀ s : State, s.cfg.rvc = true ∨ s.mepc.getLsbD 1 = false →
    Answers .mret s (fun t => t.mstatusMie = s.mstatusMpie ∧ t.mstatusMpie = true ∧ t.pc = s.mepc &&& 0xFFFFFFFE#32 ∧
      SameRegs s t ∧ Counted s t ∧ SameMemory s t ∧
      t = { s with
        mstatusMie := t.mstatusMie, mstatusMpie := t.mstatusMpie, pc := t.pc, minstret := t.minstret })) ∧
  (∀ s : State, s.cfg.rvc = false → s.mepc.getLsbD 1 = true → exec .mret s = .refused .mretMisaligned)

/-- R520, R524: MRET right after any trap goes back to the instruction the trap saved and restores MSTATUS.MIE; no
register and no byte of memory has changed. -/
def Obligations.MretAfterTrapResumes : Prop :=
  ∀ (s : State) (int : Bool) (code : BitVec 4) (tval : Word), s.cfg.alignPc s.pc = s.pc →
    Answers .mret (s.trapEntry int code s.pc tval) (fun t =>
      t.pc = s.pc ∧ t.mstatusMie = s.mstatusMie ∧ SameRegs s t ∧ SameMemory s t)

/-- R373, R550: WFI completes, is counted, and enters the wait state exactly when MIP & MIE is zero. -/
def Obligations.WfiWaitsUnlessPending : Prop :=
  ∀ s : State, Answers .wfi s (fun t =>
    (t.waiting = true ↔ s.readCsr .mip &&& s.readCsr .mie = 0#32) ∧ t.pc = s.pc + 4#32 ∧ SameRegs s t ∧ Counted s t ∧
    SameMemory s t ∧ t = { s with waiting := t.waiting, pc := t.pc, minstret := t.minstret })

/-! ## Control and status registers -/

/-- R29, R375, R376, R381, R382, R384, R385: a set or clear form whose source is x0 or zimm 0 reads any CSR that
exists, read-only ones included, and changes nothing but rd, the pc and the count. On an IPIC register R111 leaves the
zero-source forms undefined; that they are reads there is U12's treatment, which R379 repeats and the model follows
(notes/assumptions/24.md). -/
def Obligations.CsrReadFormsOnlyRead : Prop :=
  ∀ (s : State) (rd : Reg) (a : CsrAddr) (c : Csr), csrAt s.cfg a = some c →
    Answers (.csrrs rd a 0#5) s (fun t => RegDone s t rd (s.readCsr c) (s.pc + 4#32)) ∧
    Answers (.csrrc rd a 0#5) s (fun t => RegDone s t rd (s.readCsr c) (s.pc + 4#32)) ∧
    Answers (.csrrsi rd a 0#5) s (fun t => RegDone s t rd (s.readCsr c) (s.pc + 4#32)) ∧
    Answers (.csrrci rd a 0#5) s (fun t => RegDone s t rd (s.readCsr c) (s.pc + 4#32))

/-- R35, R37, R40 to R44, R51, R52, R375, R376, R380 to R385: the six CSR instructions on MSTATUS, MIE, MTVEC, MSCRATCH,
MEPC, MCAUSE, MTVAL, DBG_SCRATCH, MCOUNTEN: rd gets the old value; the writable bits take the new one, or it OR-ed in,
or it cleared out; the other bits, the other registers and all other state do not change. Two points are the model's
choices: an instruction that writes MCOUNTEN is counted by the old IR (notes/assumptions/18.md), and MTVEC.MODE stores
2 and 3, which U8 has a model refuse (notes/assumptions/15.md). -/
def Obligations.CsrWritesReachWritableBitsOnly : Prop :=
  ∀ (s : State) (rd rs1 zimm : Reg) (a : CsrAddr) (c : Csr) (mask fixed : Word),
    csrAt s.cfg a = some c → plainCsr s.cfg c = some (mask, fixed) →
    Answers (.csrrw rd a rs1) s (fun t => CsrPlainDone s t rd c (s.reg rs1) mask fixed) ∧
    Answers (.csrrwi rd a zimm) s (fun t => CsrPlainDone s t rd c (zimm.setWidth 32) mask fixed) ∧
    (rs1 ≠ 0#5 →
      Answers (.csrrs rd a rs1) s (fun t => CsrPlainDone s t rd c (s.readCsr c ||| s.reg rs1) mask fixed) ∧
      Answers (.csrrc rd a rs1) s (fun t => CsrPlainDone s t rd c (s.readCsr c &&& ~~~(s.reg rs1)) mask fixed)) ∧
    (zimm ≠ 0#5 →
      Answers (.csrrsi rd a zimm) s (fun t => CsrPlainDone s t rd c (s.readCsr c ||| zimm.setWidth 32) mask fixed) ∧
      Answers (.csrrci rd a zimm) s (fun t => CsrPlainDone s t rd c (s.readCsr c &&& ~~~(zimm.setWidth 32)) mask fixed))

/-- R29, R111, R377 to R379, R480: a CSR instruction on an address where no CSR exists, and one that writes an address
with bits 11..10 set, raise IllegalInstruction with the instruction word and change nothing; the set and clear forms
that write are "not supported" on an IPIC register, and the model refuses them (U12, notes/assumptions/24.md). -/
def Obligations.CsrAccessRules : Prop :=
  ∀ (s : State) (rd r : Reg) (a : CsrAddr),
    (∀ c, csrAt s.cfg a = some c → c.isIpic = true → r ≠ 0#5 →
      exec (.csrrs rd a r) s = .refused .ipicSetClear ∧ exec (.csrrc rd a r) s = .refused .ipicSetClear ∧
      exec (.csrrsi rd a r) s = .refused .ipicSetClear ∧ exec (.csrrci rd a r) s = .refused .ipicSetClear) ∧
    ((csrAt s.cfg a = none ∨ a.extractLsb' 10 2 = 3#2) →
      Traps (.csrrw rd a r) s 2#4 (some (encode (.csrrw rd a r)).value) ∧
      Traps (.csrrwi rd a r) s 2#4 (some (encode (.csrrwi rd a r)).value)) ∧
    ((csrAt s.cfg a = none ∨ (a.extractLsb' 10 2 = 3#2 ∧ r ≠ 0#5)) →
      Traps (.csrrs rd a r) s 2#4 (some (encode (.csrrs rd a r)).value) ∧
      Traps (.csrrc rd a r) s 2#4 (some (encode (.csrrc rd a r)).value) ∧
      Traps (.csrrsi rd a r) s 2#4 (some (encode (.csrrsi rd a r)).value) ∧
      Traps (.csrrci rd a r) s 2#4 (some (encode (.csrrci rd a r)).value))

/-- R36, R45, R115, R118: a write to MISA or MIP, and through CSRRW or CSRRWI to IPIC_CISV or IPIC_ISVR, is ignored: rd
gets the value read and nothing else changes. MISA reads as the build parameters at their positions, MXL = 01 (R36). -/
def Obligations.WritesToConstantRegistersAreIgnored : Prop :=
  (∀ (s : State) (rd r : Reg) (a : CsrAddr) (c : Csr), csrAt s.cfg a = some c →
    (c = .misa ∨ c = .mip →
      Answers (.csrrs rd a r) s (fun t => RegDone s t rd (s.readCsr c) (s.pc + 4#32)) ∧
      Answers (.csrrc rd a r) s (fun t => RegDone s t rd (s.readCsr c) (s.pc + 4#32)) ∧
      Answers (.csrrsi rd a r) s (fun t => RegDone s t rd (s.readCsr c) (s.pc + 4#32)) ∧
      Answers (.csrrci rd a r) s (fun t => RegDone s t rd (s.readCsr c) (s.pc + 4#32))) ∧
    (c = .misa ∨ c = .mip ∨ c = .ipicCisv ∨ c = .ipicIsvr →
      Answers (.csrrw rd a r) s (fun t => RegDone s t rd (s.readCsr c) (s.pc + 4#32)) ∧
      Answers (.csrrwi rd a r) s (fun t => RegDone s t rd (s.readCsr c) (s.pc + 4#32)))) ∧
  (∀ s : State, (s.readCsr .misa).toNat = 2 ^ 30 + 2 ^ 23 * s.cfg.misaRvx.toNat + 2 ^ 12 * s.cfg.rvm.toNat
    + 2 ^ 8 * (!s.cfg.rve).toNat + 2 ^ 4 * s.cfg.rve.toNat + 2 ^ 2 * s.cfg.rvc.toNat)

/-- R47, R48, R376, R379, R380 to R385: every CSR instruction that writes a counter (CSRRW, CSRRWI, and the set and clear
forms with a source that is not zero) replaces one half of it and keeps the other; the counter is then exactly that
value, or one more while it runs: the choice of U10 (notes/assumptions/17.md). Nothing else changes. -/
def Obligations.CounterWritesReplaceOneHalf : Prop :=
  ∀ (s : State) (i : Instr) (f : CsrShape), csrWriteShape s i = some f → s.cfg.cntCsrsPresent = true →
    (f.addr = 0xB00#12 → Answers i s (fun t => ∃ n : DWord,
      n.toNat = s.mcycle.toNat / 2 ^ 32 * 2 ^ 32 + (f.new (s.readCsr .mcycle)).toNat ∧
      (t.mcycle = n ∨ (s.countsCycles = true ∧ t.mcycle = n + 1#64)) ∧
      CsrDone s t f.rd (s.readCsr .mcycle) ∧ Counted s t ∧
      t = { s with regs := t.regs, pc := t.pc, minstret := t.minstret, mcycle := t.mcycle })) ∧
    (f.addr = 0xB80#12 → Answers i s (fun t => ∃ n : DWord,
      n.toNat = (f.new (s.readCsr .mcycleh)).toNat * 2 ^ 32 + s.mcycle.toNat % 2 ^ 32 ∧
      (t.mcycle = n ∨ (s.countsCycles = true ∧ t.mcycle = n + 1#64)) ∧
      CsrDone s t f.rd (s.readCsr .mcycleh) ∧ Counted s t ∧
      t = { s with regs := t.regs, pc := t.pc, minstret := t.minstret, mcycle := t.mcycle })) ∧
    (f.addr = 0xB02#12 → Answers i s (fun t => ∃ n : DWord,
      n.toNat = s.minstret.toNat / 2 ^ 32 * 2 ^ 32 + (f.new (s.readCsr .minstret)).toNat ∧
      (t.minstret = n ∨ (CountingOn s ∧ t.minstret = n + 1#64)) ∧ CsrDone s t f.rd (s.readCsr .minstret) ∧
      t = { s with regs := t.regs, pc := t.pc, minstret := t.minstret })) ∧
    (f.addr = 0xB82#12 → Answers i s (fun t => ∃ n : DWord,
      n.toNat = (f.new (s.readCsr .minstreth)).toNat * 2 ^ 32 + s.minstret.toNat % 2 ^ 32 ∧
      (t.minstret = n ∨ (CountingOn s ∧ t.minstret = n + 1#64)) ∧ CsrDone s t f.rd (s.readCsr .minstreth) ∧
      t = { s with regs := t.regs, pc := t.pc, minstret := t.minstret }))

/-- R47 to R50, R101: what a read of a counter gives: the half of its value, or of one more while it runs (U10,
notes/assumptions/17.md); CYCLE, INSTRET and TIME are mirrors. That two reads at one moment see the same of the two
values is the model's choice (notes/assumptions/7.md). -/
def Obligations.CounterReadsGiveHalves : Prop :=
  ∀ s : State,
    (∃ n : DWord, (n = s.mcycle ∨ (s.countsCycles = true ∧ n = s.mcycle + 1#64)) ∧
      (s.readCsr .mcycle).toNat = n.toNat % 2 ^ 32 ∧ (s.readCsr .mcycleh).toNat = n.toNat / 2 ^ 32 ∧
      s.readCsr .cycle = s.readCsr .mcycle ∧ s.readCsr .cycleh = s.readCsr .mcycleh) ∧
    (∃ n : DWord, (n = s.minstret ∨ (CountingOn s ∧ n = s.minstret + 1#64)) ∧
      (s.readCsr .minstret).toNat = n.toNat % 2 ^ 32 ∧ (s.readCsr .minstreth).toNat = n.toNat / 2 ^ 32 ∧
      s.readCsr .instret = s.readCsr .minstret ∧ s.readCsr .instreth = s.readCsr .minstreth) ∧
    (s.readCsr .time).toNat = s.timer.mtime.toNat % 2 ^ 32 ∧ (s.readCsr .timeh).toNat = s.timer.mtime.toNat / 2 ^ 32

/-! ## Interrupt controller (spec/11_state_timer_ipic_brkm.md, spec/60_exceptions.md) -/

/-- R112, R115, R505: cisv is the lowest vector in service, or 16; MIP.MEIP is the level of ext_irq without the IPIC, and
with it says that some enabled pending vector is below cisv. What the eight registers read (R115 to R121, R124): cisv,
the pending and in-service bits, IDX, the fields of the indexed vector with PRV = 11, those of the vector in service or
0, and 0 for IPIC_EOI and IPIC_SOI. -/
def Obligations.ExternalInterruptPendingRule : Prop :=
  (∀ s : State,
    (s.ipic.cisv ≤ 16 ∧ (∀ v, v < s.ipic.cisv → s.ipic.isv.getLsbD v = false) ∧
      (s.ipic.cisv < 16 → s.ipic.isv.getLsbD s.ipic.cisv = true)) ∧
    (s.cfg.ipicEn = false → (s.readCsr .mip).getLsbD 11 = s.pins.extIrq) ∧
    (s.cfg.ipicEn = true →
      ((s.readCsr .mip).getLsbD 11 = true ↔
        ∃ v, v < 16 ∧ (s.ipic.pending s.cfg.ipicLevelIpLive s.ipicLines).getLsbD v = true ∧
          s.ipic.ie.getLsbD v = true ∧ v < s.ipic.cisv))) ∧
  (∀ (s : State) (ip : BitVec 16), ip = s.ipic.pending s.cfg.ipicLevelIpLive s.ipicLines →
    (s.readCsr .ipicCisv).toNat = s.ipic.cisv ∧ (s.readCsr .ipicIpr).toNat = ip.toNat ∧
    (s.readCsr .ipicIsvr).toNat = s.ipic.isv.toNat ∧ (s.readCsr .ipicIdx).toNat = s.ipic.idx.toNat ∧
    s.readCsr .ipicEoi = 0#32 ∧ s.readCsr .ipicSoi = 0#32 ∧
    (s.ipic.cisv = 16 → s.readCsr .ipicCicsr = 0#32) ∧
    (s.ipic.cisv < 16 → (s.readCsr .ipicCicsr).toNat =
      2 * (s.ipic.ie.getLsbD s.ipic.cisv).toNat + (ip.getLsbD s.ipic.cisv).toNat) ∧
    (s.readCsr .ipicIcsr).toNat = 2 ^ 12 * s.ipic.idx.toNat + 2 ^ 8 * 3
      + 2 ^ 4 * (s.ipic.isv.getLsbD s.ipic.idx.toNat).toNat + 2 ^ 3 * (s.ipic.inv.getLsbD s.ipic.idx.toNat).toNat
      + 2 ^ 2 * (s.ipic.im.getLsbD s.ipic.idx.toNat).toNat + 2 * (s.ipic.ie.getLsbD s.ipic.idx.toNat).toNat
      + (ip.getLsbD s.ipic.idx.toNat).toNat)

/-- R112, R119, R120, R125: a write through CSRRW or CSRRWI to IPIC_SOI puts the lowest pending enabled vector into
service when it is below cisv, and changes nothing otherwise; a write to IPIC_EOI takes the vector cisv out of service,
and changes nothing when there is none (D35). Enables, modes, inversions and IDX stay. With IPIC_SOI_CLEARS_IP off no
pending bit changes; with it on the bit of the vector that enters service is cleared, but for a level vector that follows
its line (R506, D42). That cisv is a function of the in-service bits is D34. -/
def Obligations.StartAndEndOfInterrupt : Prop :=
  ∀ (s : State) (i : Instr) (f : CsrShape), csrReplaceShape s i = some f → s.cfg.ipicEn = true →
    (f.addr = 0xBF5#12 → Answers i s (fun t => IpicDone s t f.rd 0#32 ∧
      t.ipic = { s.ipic with ip := t.ipic.ip, isv := t.ipic.isv } ∧
      (∀ v, v < 16 → t.ipic.isv.getLsbD v =
        (s.ipic.isv.getLsbD v ||
          (decide (v = s.ipic.top s.cfg.ipicLevelIpLive s.ipicLines) && decide (v < s.ipic.cisv)))) ∧
      (s.cfg.ipicSoiClearsIp = false →
        t.ipic.pending s.cfg.ipicLevelIpLive s.ipicLines = s.ipic.pending s.cfg.ipicLevelIpLive s.ipicLines) ∧
      (s.cfg.ipicSoiClearsIp = true → ∀ v, v < 16 →
        (t.ipic.pending s.cfg.ipicLevelIpLive s.ipicLines).getLsbD v =
          ((s.ipic.pending s.cfg.ipicLevelIpLive s.ipicLines).getLsbD v &&
            !(decide (v = s.ipic.top s.cfg.ipicLevelIpLive s.ipicLines) && decide (v < s.ipic.cisv) &&
              (!s.cfg.ipicLevelIpLive || s.ipic.im.getLsbD v)))))) ∧
    (f.addr = 0xBF4#12 → Answers i s (fun t => IpicDone s t f.rd 0#32 ∧
      t.ipic = { s.ipic with isv := t.ipic.isv } ∧
      (∀ v, v < 16 → t.ipic.isv.getLsbD v = (s.ipic.isv.getLsbD v && decide (v ≠ s.ipic.cisv))) ∧
      (s.ipic.cisv < 16 → s.ipic.cisv < t.ipic.cisv)))

/-- R116, R117, R121, R124: what CSRRW and CSRRWI write to IPIC_IPR, IPIC_CICSR, IPIC_IDX and IPIC_ICSR: a written 1
clears a pending bit, the other fields take the written bits, vectors that the register does not show are unchanged, and
the pending bit of the indexed vector is left open where IM or INV changes (U28, notes/assumptions/27.md). Three points
are the model's choices: an IS bit that differs from the present one is written (U13, notes/assumptions/25.md), the
latches take the visible pending bits (notes/assumptions/28.md), and IPIC_CICSR with nothing in service ignores the
write (D35). -/
def Obligations.IpicRegisterWrites : Prop :=
  ∀ (s : State) (i : Instr) (f : CsrShape), csrReplaceShape s i = some f → s.cfg.ipicEn = true →
    (f.addr = 0xBF2#12 → Answers i s (fun t => IpicDone s t f.rd (s.readCsr .ipicIpr) ∧
      t.ipic = { s.ipic with ip := t.ipic.ip } ∧
      (∀ v, v < 16 → t.ipic.ip.getLsbD v =
        ((s.ipic.pending s.cfg.ipicLevelIpLive s.ipicLines).getLsbD v && !(f.new 0#32).getLsbD v)))) ∧
    (f.addr = 0xBF6#12 → Answers i s (fun t => IpicDone s t f.rd (s.readCsr .ipicIdx) ∧
      t.ipic = { s.ipic with idx := t.ipic.idx } ∧ t.ipic.idx.toNat = (f.new 0#32).toNat % 16)) ∧
    (f.addr = 0xBF1#12 → Answers i s (fun t => IpicDone s t f.rd (s.readCsr .ipicCicsr) ∧
      (s.ipic.cisv = 16 → t.ipic = s.ipic) ∧
      (s.ipic.cisv < 16 →
        t.ipic = { s.ipic with ip := t.ipic.ip, ie := t.ipic.ie } ∧
        (∀ v, v < 16 → t.ipic.ie.getLsbD v =
          if v = s.ipic.cisv then (f.new 0#32).getLsbD 1 else s.ipic.ie.getLsbD v) ∧
        (∀ v, v < 16 → t.ipic.ip.getLsbD v =
          ((s.ipic.pending s.cfg.ipicLevelIpLive s.ipicLines).getLsbD v &&
            !(decide (v = s.ipic.cisv) && (f.new 0#32).getLsbD 0)))))) ∧
    (f.addr = 0xBF7#12 → Answers i s (fun t => IpicDone s t f.rd (s.readCsr .ipicIcsr) ∧
      t.ipic = { s.ipic with
        ip := t.ipic.ip, ie := t.ipic.ie, im := t.ipic.im, inv := t.ipic.inv, isv := t.ipic.isv } ∧
      (∀ v, v < 16 →
        t.ipic.ie.getLsbD v = (if v = s.ipic.idx.toNat then (f.new 0#32).getLsbD 1 else s.ipic.ie.getLsbD v) ∧
        t.ipic.im.getLsbD v = (if v = s.ipic.idx.toNat then (f.new 0#32).getLsbD 2 else s.ipic.im.getLsbD v) ∧
        t.ipic.inv.getLsbD v = (if v = s.ipic.idx.toNat then (f.new 0#32).getLsbD 3 else s.ipic.inv.getLsbD v) ∧
        t.ipic.isv.getLsbD v = (if v = s.ipic.idx.toNat then (f.new 0#32).getLsbD 4 else s.ipic.isv.getLsbD v)) ∧
      (∀ v, v < 16 → v ≠ s.ipic.idx.toNat ∨ (t.ipic.im = s.ipic.im ∧ t.ipic.inv = s.ipic.inv) →
        t.ipic.ip.getLsbD v =
          ((s.ipic.pending s.cfg.ipicLevelIpLive s.ipicLines).getLsbD v &&
            !(decide (v = s.ipic.idx.toNat) && (f.new 0#32).getLsbD 0)))))

/-- R117, R505, R506, D42: the pending bits that every register and the request see: the latch, or with
IPIC_LEVEL_IP_LIVE a level vector's conditioned line. After a sampling a vector is pending by one of the four
conditions (high level, low level, rising edge, falling edge), or because its latch was set before, which a live level
vector does not use. A pending edge stays pending whatever the lines, the clocks and the debugger do, while no reset
source is asserted. The sampling as a move of the schedule is the model's (notes/assumptions/26.md). -/
def Obligations.LinesSetPendingBits : Prop :=
  (∀ (x : Ipic) (live : Bool) (lines : BitVec 16) (v : Nat), v < 16 →
    (live = true → x.im.getLsbD v = false →
      ((x.pending live lines).getLsbD v = true ↔ lines.getLsbD v ≠ x.inv.getLsbD v)) ∧
    (live = true → x.im.getLsbD v = true → (x.pending live lines).getLsbD v = x.ip.getLsbD v) ∧
    (live = false → x.pending live lines = x.ip)) ∧
  (∀ (x : Ipic) (live : Bool) (before lines : BitVec 16) (v : Nat), v < 16 →
    (((x.sample lines).pending live lines).getLsbD v = true ↔
      ((live = false ∨ x.im.getLsbD v = true) ∧ (x.pending live before).getLsbD v = true) ∨
      (x.im.getLsbD v = false ∧ x.inv.getLsbD v = false ∧ lines.getLsbD v = true) ∨
      (x.im.getLsbD v = false ∧ x.inv.getLsbD v = true ∧ lines.getLsbD v = false) ∨
      (x.im.getLsbD v = true ∧ x.inv.getLsbD v = false ∧ x.prev.getLsbD v = false ∧ lines.getLsbD v = true) ∨
      (x.im.getLsbD v = true ∧ x.inv.getLsbD v = true ∧ x.prev.getLsbD v = true ∧ lines.getLsbD v = false))) ∧
  (∀ (m : HostMove) (s t : State) (v : Nat), v < 16 → m.apply s = .ok t → s.ipic.im.getLsbD v = true →
    (s.ipic.pending s.cfg.ipicLevelIpLive s.ipicLines).getLsbD v = true →
    t.ipic.im.getLsbD v = true ∧ (t.ipic.pending t.cfg.ipicLevelIpLive t.ipicLines).getLsbD v = true)

/-! ## Timer (spec/11_state_timer_ipic_brkm.md, spec/60_exceptions.md) -/

/-- R47, R103, R535: CLKSEL selects the clock: cycles of clk tick the timer with CLKSEL = 1 and those of rtc_clk with
CLKSEL = 0, and the other clock leaves it. `n` ticks with EN = 1 and COEF at least 1 advance mtime by (phase + n) / COEF
and leave the phase (phase + n) mod COEF; with EN = 0 nothing advances; the other registers never change. With COEF = 0
the advance is any (U29, notes/assumptions/12.md). Cycles of clk advance mcycle when it counts, and nothing else
changes. -/
def Obligations.TimerDividesItsClock : Prop :=
  (∀ (s : State) (n : Nat),
    (s.clk n).mcycle = (if s.countsCycles = true then s.mcycle + BitVec.ofNat 64 n else s.mcycle) ∧
    (s.timer.clksel = true → ∃ free, (s.clk n).timer = s.timer.tick n free) ∧
    (s.timer.clksel = false → (s.clk n).timer = s.timer) ∧
    (s.timer.clksel = false → ∃ free, (s.rtc n).timer = s.timer.tick n free) ∧
    (s.timer.clksel = true → s.rtc n = s) ∧
    (s.rtc n).mcycle = s.mcycle ∧ s.clk n = { s with mcycle := (s.clk n).mcycle, timer := (s.clk n).timer } ∧
    s.rtc n = { s with timer := (s.rtc n).timer }) ∧
  ∀ (x : Timer) (n free : Nat), x.phase < x.coef.toNat →
    (x.en = true → (x.tick n free).mtime = x.mtime + BitVec.ofNat 64 ((x.phase + n) / x.coef.toNat) ∧
      (x.tick n free).phase = (x.phase + n) % x.coef.toNat) ∧
    (x.en = false → x.tick n free = x) ∧
    (x.tick n free).mtimecmp = x.mtimecmp ∧ (x.tick n free).coef = x.coef ∧ (x.tick n free).clksel = x.clksel ∧
    (x.tick n free).en = x.en

/-- R504: MIP.MTIP is mtime >= mtimecmp, unsigned, whatever MTIMECLKSET.EN is; R503: MIP.MSIP is the level of
soft_irq. -/
def Obligations.TimerAndSoftwarePendingBits : Prop :=
  ∀ s : State, ((s.readCsr .mip).getLsbD 7 = true ↔ s.timer.mtimecmp.toNat ≤ s.timer.mtime.toNat) ∧
    (s.readCsr .mip).getLsbD 3 = s.pins.softIrq

/-! ## Breakpoints (spec/60_exceptions.md) -/

/-- R545, R546, R473, R523: a match whose strongest action is 1 raises Breakpoint at the instruction's address with the
address that matched, before the fetch, the load or the store; every match sets its MATCHED bit. -/
def Obligations.BreakpointMatchRaises : Prop :=
  ∀ s : State, s.cfg.dbgcEn = false ∨ s.dbgc.dmodeEnbl.brkpt = false →
    (StrongestMatch s .exec s.pc 1 1#3 → s.brkm.bpISkip = false →
      ∃ t, s.instrStep = .next t ∧ TrapTaken (afterMatch s .exec s.pc 1) t false 3#4 s.pc (some s.pc)) ∧
    (∀ i f, loadShape s i = some f → StrongestMatch s .load f.addr f.size 1#3 →
      Answers i s (fun t => TrapTaken (afterMatch s .load f.addr f.size) t false 3#4 s.pc (some f.addr))) ∧
    (∀ i f, storeShape s i = some f → StrongestMatch s .store f.addr f.size 1#3 →
      Answers i s (fun t => TrapTaken (afterMatch s .store f.addr f.size) t false 3#4 s.pc (some f.addr)))

/-- R545, R546, R555: a match whose strongest action is 2 enters Debug-Mode with cause Hw_Brkpt, the pc unchanged. -/
def Obligations.BreakpointMatchEntersDebugMode : Prop :=
  ∀ s : State,
    (StrongestMatch s .exec s.pc 1 2#3 → s.brkm.bpISkip = false →
      ∃ t, s.instrStep = .next t ∧ DebugEntered (afterMatch s .exec s.pc 1) t ∧ t.dbgc.dmodeCause.hwBrkpt = true) ∧
    (∀ i f, loadShape s i = some f → StrongestMatch s .load f.addr f.size 2#3 →
      Answers i s (fun t => DebugEntered (afterMatch s .load f.addr f.size) t ∧ t.dbgc.dmodeCause.hwBrkpt = true)) ∧
    (∀ i f, storeShape s i = some f → StrongestMatch s .store f.addr f.size 2#3 →
      Answers i s (fun t => DebugEntered (afterMatch s .store f.addr f.size) t ∧ t.dbgc.dmodeCause.hwBrkpt = true))

/-- R545, R546: a match whose strongest action is 0 has no effect but MATCHED where DRYRUN is set: the instruction
executes from the state with those bits. That BP_I_SKIP skips no such match of an instruction is the model's choice (U19,
notes/assumptions/71.md). -/
def Obligations.DryRunMatchOnlySetsMatched : Prop :=
  ∀ s : State,
    (StrongestMatch s .exec s.pc 1 0#3 → s.instrStep = (afterMatch s .exec s.pc 1).fetchAndRun) ∧
    (∀ i f, loadShape s i = some f → StrongestMatch s .load f.addr f.size 0#3 →
      GoesToExt s.cfg .load f.addr f.size →
      Answers i s (fun t => RegDone (afterMatch s .load f.addr f.size) t f.rd
        (extended f.ext f.size (leNat (s.byte .ext) f.addr.toNat f.size)) (s.pc + f.len))) ∧
    (∀ i f, storeShape s i = some f → StrongestMatch s .store f.addr f.size 0#3 →
      GoesToExt s.cfg .store f.addr f.size →
      Answers i s (fun t => ExtStoreDone (afterMatch s .store f.addr f.size) t f))

/-- R140, R141, R144 to R147, R149: the CSR instructions that write, on the breakpoint registers but for the two
address registers (BreakpointAddressRegisters): BPSELECT keeps its implemented bits; BPCONTROL takes the enables that
its support bits allow, the action, and MATCHED by BRKMCTRL.MODE; BPCTRLEXT takes DRYRUN and AMASKEXT_EN; BRKMCTRL
takes BP_I_SKIP and MODE, a written INIT arms the skip mechanism, and its MATCHED is no storage; no other breakpoint
changes. And what they read. The model's choices: ACTION 3 to 7 is stored, which U16 has a model refuse
(notes/assumptions/31.md); an enable written 1 without support is left open (U15, notes/assumptions/30.md); what INIT
reads and does (U18, U19, notes/assumptions/32.md, 33.md); the refusal where BPSELECT selects nothing (U14,
notes/assumptions/29.md); the data registers under BRKM_DATA_CSRS = readZero (U17, notes/assumptions/23.md). -/
def Obligations.BreakpointRegisterWrites : Prop :=
  (∀ (s : State) (i : Instr) (f : CsrShape), csrWriteShape s i = some f → s.cfg.brkmEn = true →
    (f.addr = 0x7C0#12 → Answers i s (fun t => BrkmDone s t f.rd (s.readCsr .bpselect) ∧
      t.brkm = { s.brkm with bpselect := t.brkm.bpselect } ∧
      t.brkm.bpselect.toNat = (f.new (s.readCsr .bpselect)).toNat % 2 ^ s.cfg.bpWidth)) ∧
    (f.addr = 0x7C7#12 → Answers i s (fun t => BrkmDone s t f.rd (s.readCsr .brkmctrl) ∧
      t.brkm = { s.brkm with
        bpISkip := (f.new (s.readCsr .brkmctrl)).getLsbD 14
        mode := (f.new (s.readCsr .brkmctrl)).getLsbD 16
        skipArmed := s.brkm.skipArmed || (f.new (s.readCsr .brkmctrl)).getLsbD 15 })) ∧
    (s.cfg.brkmDataCsrs = .readZero → f.addr = 0x7C4#12 ∨ f.addr = 0x7C5#12 →
      Answers i s (fun t => RegDone s t f.rd 0#32 (s.pc + 4#32))) ∧
    (s.brkm.bps[s.brkm.bpselect.toNat]? = none →
      f.addr = 0x7C1#12 ∨ f.addr = 0x7C2#12 ∨ f.addr = 0x7C3#12 ∨ f.addr = 0x7C6#12 →
      exec i s = .refused .breakpointAbsent) ∧
    (∀ (b : Breakpoint) (v : Word) (sup : BpSupport), s.brkm.bps[s.brkm.bpselect.toNat]? = some b →
      sup = s.cfg.sup s.brkm.bpselect.toNat →
      (f.addr = 0x7C1#12 → v = f.new (s.readCsr .bpcontrol) →
        Answers i s (fun t => BrkmDone s t f.rd (s.readCsr .bpcontrol) ∧
          ∃ b', t.brkm = { s.brkm with bps := s.brkm.bps.set s.brkm.bpselect.toNat b' } ∧
            b'.loAddr = b.loAddr ∧ b'.hiAddr = b.hiAddr ∧ b'.dryrun = b.dryrun ∧ b'.amaskext = b.amaskext ∧
            b'.action = v.extractLsb' 12 3 ∧
            b'.matched = (if s.brkm.mode = true then b.matched && !v.getLsbD 15 else v.getLsbD 15) ∧
            (sup.amask = true ∨ v.getLsbD 5 = false → b'.amasken = v.getLsbD 5) ∧
            (sup.a = true ∨ v.getLsbD 7 = false → b'.aen = v.getLsbD 7) ∧
            (sup.exec = true ∨ v.getLsbD 8 = false → b'.execen = v.getLsbD 8) ∧
            (sup.store = true ∨ v.getLsbD 9 = false → b'.storeen = v.getLsbD 9) ∧
            (sup.load = true ∨ v.getLsbD 10 = false → b'.loaden = v.getLsbD 10))) ∧
      (f.addr = 0x7C6#12 → v = f.new (s.readCsr .bpctrlext) →
        Answers i s (fun t => BrkmDone s t f.rd (s.readCsr .bpctrlext) ∧
          ∃ b', t.brkm = { s.brkm with bps := s.brkm.bps.set s.brkm.bpselect.toNat b' } ∧
            b' = { b with dryrun := v.getLsbD 13, amaskext := b'.amaskext } ∧
            (sup.amask = true ∨ v.getLsbD 14 = false → b'.amaskext = v.getLsbD 14))))) ∧
  (∀ (s : State),
    (s.readCsr .bpselect).toNat = s.brkm.bpselect.toNat ∧
    (∃ init : Bool, (s.readCsr .brkmctrl).toNat = 2 ^ 16 * s.brkm.mode.toNat + 2 ^ 15 * init.toNat
      + 2 ^ 14 * s.brkm.bpISkip.toNat + 2 ^ 12 * (if ∃ b ∈ s.brkm.bps, b.matched = true then 1 else 0)) ∧
    (∀ (b : Breakpoint) (sup : BpSupport), s.brkm.bps[s.brkm.bpselect.toNat]? = some b →
      sup = s.cfg.sup s.brkm.bpselect.toNat →
      (s.readCsr .bpcontrol).toNat = 2 ^ 26 * sup.load.toNat + 2 ^ 25 * sup.store.toNat + 2 ^ 24 * sup.exec.toNat
        + 2 ^ 23 * sup.a.toNat + 2 ^ 21 * sup.amask.toNat + 2 ^ 15 * b.matched.toNat + 2 ^ 12 * b.action.toNat
        + 2 ^ 10 * b.loaden.toNat + 2 ^ 9 * b.storeen.toNat + 2 ^ 8 * b.execen.toNat + 2 ^ 7 * b.aen.toNat
        + 2 ^ 5 * b.amasken.toNat ∧
      (s.readCsr .bpctrlext).toNat = 2 ^ 14 * b.amaskext.toNat + 2 ^ 13 * b.dryrun.toNat))

/-- R142, R143: BPLOADDR and BPHIADDR of the selected breakpoint are plain 32-bit storage: a read returns the register,
and every CSR instruction that writes replaces it; no other breakpoint and no other state changes. -/
def Obligations.BreakpointAddressRegisters : Prop :=
  ∀ (s : State) (b : Breakpoint), s.cfg.brkmEn = true → s.brkm.bps[s.brkm.bpselect.toNat]? = some b →
    s.readCsr .bploaddr = b.loAddr ∧ s.readCsr .bphiaddr = b.hiAddr ∧
    ∀ (i : Instr) (f : CsrShape), csrWriteShape s i = some f →
      (f.addr = 0x7C2#12 → Answers i s (fun t =>
        BrkmDone s t f.rd b.loAddr ∧ t.readCsr .bploaddr = f.new b.loAddr ∧
        t.brkm = { s.brkm with bps := s.brkm.bps.set s.brkm.bpselect.toNat { b with loAddr := f.new b.loAddr } })) ∧
      (f.addr = 0x7C3#12 → Answers i s (fun t =>
        BrkmDone s t f.rd b.hiAddr ∧ t.readCsr .bphiaddr = f.new b.hiAddr ∧
        t.brkm = { s.brkm with bps := s.brkm.bps.set s.brkm.bpselect.toNat { b with hiAddr := f.new b.hiAddr } }))

/-! ## Debugger (spec/12_state_debug.md) -/

/-- R51, R187, R189, R190, R196, R555: the debugger's write of HART_DBG_DATA is a write of DBG_SCRATCH, its Halt enters
Debug-Mode with cause Enforce, its Resume leaves it, and its UNLOCK clears the Lock bits; the general registers and the
memories are untouched. A scan as one move is the model's (notes/assumptions/46.md), and three points are its choices:
that Halt ends the wait state (notes/assumptions/48.md), that a command is carried out whatever Ready and Lock show
(notes/assumptions/60.md), and what becomes of a Halt while a reset source holds the core, which stands apart from the
move itself (notes/assumptions/62.md). -/
def Obligations.DebuggerCommands : Prop :=
  ∀ (s : State) (v : Word), s.cfg.dbgcEn = true → s.tapc.ir = 0b1000#4 →
    (s.dbgc.dapContext = 0b0000#4 →
      ∃ t, (HostMove.scanDr (put 32 0b1101#4 ||| put 0 v)).apply s = .ok t ∧ t.dbgScratch = v ∧
        t.readCsr .dbgScratch = v ∧ t.regs = s.regs ∧ t.pc = s.pc ∧ SameMemory s t) ∧
    (s.dbgc.dapContext = 0b0001#4 → s.dbgc.dmode = false →
      ∃ t, (HostMove.scanDr (put 32 0b0000#4 ||| put 0 1#32)).apply s = .ok t ∧ t.dbgc.dmode = true ∧
        t.dbgc.dmodeCause.enforce = true ∧ t.waiting = false ∧ t.regs = s.regs ∧ t.pc = s.pc ∧ t.mepc = s.mepc ∧
        t.mcauseEc = s.mcauseEc ∧ t.mstatusMie = s.mstatusMie ∧ SameMemory s t) ∧
    (s.dbgc.dapContext = 0b0001#4 → s.dbgc.dmode = true →
      ∃ t, (HostMove.scanDr (put 32 0b0000#4 ||| put 0 2#32)).apply s = .ok t ∧ t.dbgc.dmode = false ∧
        t.regs = s.regs ∧ t.pc = s.pc ∧ SameMemory s t) ∧
    (s.dbgc.dapContext = 0b0001#4 →
      ∃ t, (HostMove.scanDr (put 32 0b0011#4 ||| put 0 v)).apply s = .ok t ∧ t.dbgc.coreSts.lock = false ∧
        t.dbgc.dapOpStatus.getLsbD 2 = false ∧ t.dbgc.dmode = s.dbgc.dmode ∧ t.regs = s.regs ∧ t.pc = s.pc ∧
        SameMemory s t)

/-! ## Compressed instructions (spec/45_rvc.md) -/

/-- R421, R425, R427 to R432, R440: the compressed instructions with an immediate. A shift by 0 is not
defined, and the model refuses it (R282 point 4, U27, notes/assumptions/41.md); a hint is the expansion (R282
point 3). -/
def Obligations.CompressedImmediateResults : Prop :=
  ∀ (s : State) (rd : Reg) (rdp : CReg) (imm : BitVec 6) (imm10 : BitVec 10) (shamt : BitVec 5),
    Answers (.cAddi4spn rdp imm10) s (fun t =>
      RegDone s t (8#5 + rdp.setWidth 5) (BitVec.ofNat 32 ((s.reg 2#5).toNat + imm10.toNat)) (s.pc + 2#32)) ∧
    Answers (.cAddi rd imm) s (fun t =>
      RegDone s t rd (BitVec.ofInt 32 ((s.reg rd).toInt + imm.toInt)) (s.pc + 2#32)) ∧
    Answers (.cLi rd imm) s (fun t => RegDone s t rd (BitVec.ofInt 32 imm.toInt) (s.pc + 2#32)) ∧
    Answers (.cAddi16sp imm10) s (fun t =>
      RegDone s t 2#5 (BitVec.ofInt 32 ((s.reg 2#5).toInt + imm10.toInt)) (s.pc + 2#32)) ∧
    Answers (.cLui rd imm) s (fun t => RegDone s t rd (BitVec.ofInt 32 (imm.toInt * 4096)) (s.pc + 2#32)) ∧
    (shamt ≠ 0#5 →
      Answers (.cSrli rdp shamt) s (fun t =>
        RegDone s t (8#5 + rdp.setWidth 5)
          (BitVec.ofNat 32 ((s.reg (8#5 + rdp.setWidth 5)).toNat / 2 ^ shamt.toNat)) (s.pc + 2#32)) ∧
      Answers (.cSrai rdp shamt) s (fun t =>
        RegDone s t (8#5 + rdp.setWidth 5)
          (BitVec.ofInt 32 ((s.reg (8#5 + rdp.setWidth 5)).toInt / 2 ^ shamt.toNat)) (s.pc + 2#32)) ∧
      Answers (.cSlli rd shamt) s (fun t =>
        RegDone s t rd (BitVec.ofNat 32 ((s.reg rd).toNat * 2 ^ shamt.toNat)) (s.pc + 2#32))) ∧
    (shamt = 0#5 →
      exec (.cSrli rdp shamt) s = .refused .compressedShiftByZero ∧
      exec (.cSrai rdp shamt) s = .refused .compressedShiftByZero ∧
      exec (.cSlli rd shamt) s = .refused .compressedShiftByZero) ∧
    Answers (.cAndi rdp imm) s (fun t =>
      RegDone s t (8#5 + rdp.setWidth 5) (s.reg (8#5 + rdp.setWidth 5) &&& BitVec.ofInt 32 imm.toInt) (s.pc + 2#32))

/-- R424, R433 to R436, R443, R446: C.NOP and the compressed instructions with two registers. -/
def Obligations.CompressedRegisterResults : Prop :=
  ∀ (s : State) (rd rs2 : Reg) (rdp rs2p : CReg),
    Answers .cNop s (fun t => FlowDone s t (s.pc + 2#32)) ∧
    Answers (.cMv rd rs2) s (fun t => RegDone s t rd (s.reg rs2) (s.pc + 2#32)) ∧
    Answers (.cAdd rd rs2) s (fun t =>
      RegDone s t rd (BitVec.ofNat 32 ((s.reg rd).toNat + (s.reg rs2).toNat)) (s.pc + 2#32)) ∧
    Answers (.cSub rdp rs2p) s (fun t =>
      RegDone s t (8#5 + rdp.setWidth 5)
        (BitVec.ofInt 32 ((s.reg (8#5 + rdp.setWidth 5)).toInt - (s.reg (8#5 + rs2p.setWidth 5)).toInt))
        (s.pc + 2#32)) ∧
    Answers (.cXor rdp rs2p) s (fun t =>
      RegDone s t (8#5 + rdp.setWidth 5) (s.reg (8#5 + rdp.setWidth 5) ^^^ s.reg (8#5 + rs2p.setWidth 5))
        (s.pc + 2#32)) ∧
    Answers (.cOr rdp rs2p) s (fun t =>
      RegDone s t (8#5 + rdp.setWidth 5) (s.reg (8#5 + rdp.setWidth 5) ||| s.reg (8#5 + rs2p.setWidth 5))
        (s.pc + 2#32)) ∧
    Answers (.cAnd rdp rs2p) s (fun t =>
      RegDone s t (8#5 + rdp.setWidth 5) (s.reg (8#5 + rdp.setWidth 5) &&& s.reg (8#5 + rs2p.setWidth 5))
        (s.pc + 2#32))

/-- R426, R437 to R439, R442, R445: the compressed jumps and branches; the link is pc + 2 in x1, the not-taken successor
is pc + 2. -/
def Obligations.CompressedControlResults : Prop :=
  ∀ (s : State) (rs1 : Reg) (rs1p : CReg) (off : BitVec 12) (boff : BitVec 9),
    Answers (.cJ off) s (fun t => FlowDone s t (BitVec.ofInt 32 (s.pc.toInt + off.toInt))) ∧
    Answers (.cJal off) s (fun t => RegDone s t 1#5 (s.pc + 2#32) (BitVec.ofInt 32 (s.pc.toInt + off.toInt))) ∧
    Answers (.cJr rs1) s (fun t => FlowDone s t (s.reg rs1 &&& 0xFFFFFFFE#32)) ∧
    Answers (.cJalr rs1) s (fun t => RegDone s t 1#5 (s.pc + 2#32) (s.reg rs1 &&& 0xFFFFFFFE#32)) ∧
    Answers (.cBeqz rs1p boff) s (fun t =>
      FlowDone s t (if (s.reg (8#5 + rs1p.setWidth 5)).toNat = 0 then BitVec.ofInt 32 (s.pc.toInt + boff.toInt)
        else s.pc + 2#32)) ∧
    Answers (.cBnez rs1p boff) s (fun t =>
      FlowDone s t (if (s.reg (8#5 + rs1p.setWidth 5)).toNat = 0 then s.pc + 2#32
        else BitVec.ofInt 32 (s.pc.toInt + boff.toInt)))
end

