-- ==== Sys2Proof/Laws/Memory.lean ====
section
/-! SUPPORT. The laws of memory: the canonical form, which every memory operation keeps, a byte read after a write, and
little-endian values. -/

namespace Sys2Proof.Machine

open Sys2Proof

/-! ### The canonical form -/

theorem Memory.write_wfFrom {lo a : Nat} {v : Byte} (ha : lo ≤ a) :
    ∀ {m : Memory}, Memory.wfFrom lo m = true → Memory.wfFrom lo (Memory.write m a v) = true
  | [], _ => by simp [Memory.write, Memory.wfFrom, ha]
  | (k, w) :: rest, hm => by
    simp only [Memory.wfFrom, Bool.and_eq_true, decide_eq_true_eq] at hm
    obtain ⟨hk, hr⟩ := hm
    unfold Memory.write
    split
    · simp [Memory.wfFrom, ha, hr]; omega
    · split
      · subst_vars; simp [Memory.wfFrom, hk, hr]
      · have := Memory.write_wfFrom (v := v) (show k + 1 ≤ a by omega) hr
        simp [Memory.wfFrom, hk, this]

/-- A byte store keeps the canonical form. -/
theorem Memory.write_wf {m : Memory} (a : Nat) (v : Byte) (h : m.wf = true) : (Memory.write m a v).wf = true :=
  Memory.write_wfFrom (Nat.zero_le a) h

/-- A little-endian store keeps the canonical form. -/
theorem Memory.storeLE_wf : ∀ (n : Nat) {m : Memory} (a : Nat) (v : Word), m.wf = true →
    (Memory.storeLE m a n v).wf = true
  | 0, _, _, _, h => h
  | n + 1, _, a, _, h => Memory.storeLE_wf n (a + 1) _ (Memory.write_wf a _ h)

theorem Memory.nil_wf : Memory.wf [] = true := rfl

/-- Below the least address nothing is listed. -/
theorem Memory.byteAt_below {lo : Nat} :
    ∀ {m : Memory}, Memory.wfFrom lo m = true → ∀ {a : Nat}, a < lo → Memory.byteAt m a = none
  | [], _, _, _ => rfl
  | (k, w) :: rest, hm, a, ha => by
    simp only [Memory.wfFrom, Bool.and_eq_true, decide_eq_true_eq] at hm
    have hk : ¬ k = a := by omega
    simp only [Memory.byteAt, hk, if_false]
    exact Memory.byteAt_below hm.2 (by omega)

/-- Memories of canonical form that agree on every address are equal. -/
theorem Memory.eq_of_byteAt {lo : Nat} :
    ∀ {m n : Memory}, Memory.wfFrom lo m = true → Memory.wfFrom lo n = true →
      (∀ a, Memory.byteAt m a = Memory.byteAt n a) → m = n
  | [], [], _, _, _ => rfl
  | [], (k, w) :: _, _, _, h => by simpa [Memory.byteAt] using h k
  | (k, w) :: _, [], _, _, h => by simpa [Memory.byteAt] using h k
  | (k, w) :: m, (j, x) :: n, hm, hn, h => by
    simp only [Memory.wfFrom, Bool.and_eq_true, decide_eq_true_eq] at hm hn
    have hkj : k = j := by
      rcases Nat.lt_trichotomy k j with hl | he | hl
      · have := h k
        simp [Memory.byteAt, show ¬ j = k by omega, Memory.byteAt_below hn.2 (show k < j + 1 by omega)] at this
      · exact he
      · have := h j
        simp [Memory.byteAt, show ¬ k = j by omega, Memory.byteAt_below hm.2 (show j < k + 1 by omega)] at this
    subst hkj
    have hw : w = x := by simpa [Memory.byteAt] using h k
    subst hw
    have : m = n := Memory.eq_of_byteAt hm.2 hn.2 fun a => by
      by_cases ha : k = a
      · subst ha
        rw [Memory.byteAt_below hm.2 (Nat.lt_succ_self k), Memory.byteAt_below hn.2 (Nat.lt_succ_self k)]
      · simpa [Memory.byteAt, ha] using h a
    rw [this]

/-! ### Reading after writing -/

/-- The byte just written is there. -/
theorem Memory.byteAt_write_same {a : Nat} {v : Byte} :
    ∀ {m : Memory}, Memory.byteAt (Memory.write m a v) a = some v
  | [] => by simp [Memory.write, Memory.byteAt]
  | (k, w) :: rest => by
    have ih : Memory.byteAt (Memory.write rest a v) a = some v := Memory.byteAt_write_same
    unfold Memory.write
    split
    · simp [Memory.byteAt]
    · split
      · simp [Memory.byteAt]
      · simp [Memory.byteAt, show ¬ k = a by omega, ih]

/-- A write leaves every other address alone. -/
theorem Memory.byteAt_write_ne {a b : Nat} {v : Byte} (h : b ≠ a) :
    ∀ {m : Memory}, Memory.byteAt (Memory.write m a v) b = Memory.byteAt m b
  | [] => by simp [Memory.write, Memory.byteAt, Ne.symm h]
  | (k, w) :: rest => by
    have ih : Memory.byteAt (Memory.write rest a v) b = Memory.byteAt rest b := Memory.byteAt_write_ne h
    unfold Memory.write
    split
    · simp [Memory.byteAt, Ne.symm h]
    · split
      · subst_vars; simp [Memory.byteAt, Ne.symm h]
      · simp only [Memory.byteAt, ih]

/-- A little-endian store leaves every address outside its bytes alone. -/
theorem Memory.byteAt_storeLE_outside {b : Nat} :
    ∀ (n : Nat) {m : Memory} {a : Nat} {v : Word}, b < a ∨ a + n ≤ b →
      Memory.byteAt (Memory.storeLE m a n v) b = Memory.byteAt m b
  | 0, _, _, _, _ => rfl
  | n + 1, m, a, v, h => by
    simp only [Memory.storeLE]
    rw [Memory.byteAt_storeLE_outside n (by omega), Memory.byteAt_write_ne (by omega)]

/-- Byte i of a little-endian store. -/
theorem Memory.byteAt_storeLE_inside :
    ∀ (n : Nat) {m : Memory} {a i : Nat} {v : Word}, i < n →
      Memory.byteAt (Memory.storeLE m a n v) (a + i) = some (v.extractLsb' (8 * i) 8)
  | n + 1, m, a, i, v, hi => by
    simp only [Memory.storeLE]
    cases i with
    | zero =>
      rw [Memory.byteAt_storeLE_outside n (by omega)]
      simpa using Memory.byteAt_write_same
    | succ i =>
      have h := Memory.byteAt_storeLE_inside n (m := Memory.write m a (v.extractLsb' 0 8)) (a := a + 1) (i := i)
        (v := v >>> 8) (by omega)
      rw [show a + (i + 1) = a + 1 + i by omega, h]
      congr 1
      apply BitVec.eq_of_getLsbD_eq
      intro j hj
      simp [BitVec.getLsbD_extractLsb', show 8 + (8 * i + j) = 8 * (i + 1) + j by omega]

/-- A byte that has been written reads as it was written, whatever the free values. -/
theorem State.byte_of_byteAt {s : State} {b : Bank} {a : Nat} {v : Byte} (h : (s.memory b).byteAt a = some v) :
    s.byte b a = v := by
  simp [State.byte, h]

@[simp] theorem State.memory_tcm (s : State) : s.memory .tcm = s.tcm := rfl
@[simp] theorem State.memory_ext (s : State) : s.memory .ext = s.ext := rfl
@[simp] theorem State.memory_extI (s : State) : s.memory .extI = s.extI := rfl

/-! ### Little-endian values (R220) -/

/-- One byte, as LE gives it. -/
theorem readLE_one (f : Nat → Byte) (a : Nat) : readLE f a 1 = (f a).setWidth 32 := by
  simp [readLE]

/-- Two bytes, the lower address in the low bits. -/
theorem readLE_two (f : Nat → Byte) (a : Nat) :
    readLE f a 2 = (halfOfBytes (f a) (f (a + 1))).setWidth 32 := by
  simp only [readLE, halfOfBytes, put]
  apply BitVec.eq_of_getLsbD_eq
  intro j hj
  interval_cases j <;> simp

/-- Four bytes, the lowest address in the low bits. -/
theorem readLE_four (f : Nat → Byte) (a : Nat) :
    readLE f a 4 = wordOfBytes (f a) (f (a + 1)) (f (a + 2)) (f (a + 3)) := by
  simp only [readLE, wordOfBytes, put]
  apply BitVec.eq_of_getLsbD_eq
  intro j hj
  interval_cases j <;> simp

end Sys2Proof.Machine
end

