-- ==== Sys2Proof/Laws/State.lean ====
section
/-! SUPPORT. One lemma for each field of State under each shared update, true by rfl: what the update leaves and what
it sets. Later proofs use these and do not unfold a record update. -/

namespace Sys2Proof.Machine

open Sys2Proof

/-! ### State.setReg -/

section

variable (s : State) (r : Reg) (v : Word)

@[simp] theorem State.setReg_cfg : (s.setReg r v).cfg = s.cfg := rfl
@[simp] theorem State.setReg_regs :
    (s.setReg r v).regs = if r = 0#5 then s.regs else s.regs.set r.toNat v r.isLt := rfl
@[simp] theorem State.setReg_pc : (s.setReg r v).pc = s.pc := rfl
@[simp] theorem State.setReg_mstatusMie : (s.setReg r v).mstatusMie = s.mstatusMie := rfl
@[simp] theorem State.setReg_mstatusMpie : (s.setReg r v).mstatusMpie = s.mstatusMpie := rfl
@[simp] theorem State.setReg_mieMsie : (s.setReg r v).mieMsie = s.mieMsie := rfl
@[simp] theorem State.setReg_mieMtie : (s.setReg r v).mieMtie = s.mieMtie := rfl
@[simp] theorem State.setReg_mieMeie : (s.setReg r v).mieMeie = s.mieMeie := rfl
@[simp] theorem State.setReg_mtvecMode : (s.setReg r v).mtvecMode = s.mtvecMode := rfl
@[simp] theorem State.setReg_mscratch : (s.setReg r v).mscratch = s.mscratch := rfl
@[simp] theorem State.setReg_mepc : (s.setReg r v).mepc = s.mepc := rfl
@[simp] theorem State.setReg_mcauseInt : (s.setReg r v).mcauseInt = s.mcauseInt := rfl
@[simp] theorem State.setReg_mcauseEc : (s.setReg r v).mcauseEc = s.mcauseEc := rfl
@[simp] theorem State.setReg_mtval : (s.setReg r v).mtval = s.mtval := rfl
@[simp] theorem State.setReg_mcycle : (s.setReg r v).mcycle = s.mcycle := rfl
@[simp] theorem State.setReg_minstret : (s.setReg r v).minstret = s.minstret := rfl
@[simp] theorem State.setReg_mcountenCy : (s.setReg r v).mcountenCy = s.mcountenCy := rfl
@[simp] theorem State.setReg_mcountenIr : (s.setReg r v).mcountenIr = s.mcountenIr := rfl
@[simp] theorem State.setReg_dbgScratch : (s.setReg r v).dbgScratch = s.dbgScratch := rfl
@[simp] theorem State.setReg_timer : (s.setReg r v).timer = s.timer := rfl
@[simp] theorem State.setReg_ipic : (s.setReg r v).ipic = s.ipic := rfl
@[simp] theorem State.setReg_brkm : (s.setReg r v).brkm = s.brkm := rfl
@[simp] theorem State.setReg_dbgc : (s.setReg r v).dbgc = s.dbgc := rfl
@[simp] theorem State.setReg_tapc : (s.setReg r v).tapc = s.tapc := rfl
@[simp] theorem State.setReg_tcm : (s.setReg r v).tcm = s.tcm := rfl
@[simp] theorem State.setReg_ext : (s.setReg r v).ext = s.ext := rfl
@[simp] theorem State.setReg_extI : (s.setReg r v).extI = s.extI := rfl
@[simp] theorem State.setReg_fetchQueue : (s.setReg r v).fetchQueue = s.fetchQueue := rfl
@[simp] theorem State.setReg_waiting : (s.setReg r v).waiting = s.waiting := rfl
@[simp] theorem State.setReg_inReset : (s.setReg r v).inReset = s.inReset := rfl
@[simp] theorem State.setReg_pins : (s.setReg r v).pins = s.pins := rfl
@[simp] theorem State.setReg_env : (s.setReg r v).env = s.env := rfl
@[simp] theorem State.setReg_freeIdx : (s.setReg r v).freeIdx = s.freeIdx := rfl

end

/-! ### State.jumpTo -/

section

variable (s : State) (a : Word)

@[simp] theorem State.jumpTo_cfg : (s.jumpTo a).cfg = s.cfg := rfl
@[simp] theorem State.jumpTo_regs : (s.jumpTo a).regs = s.regs := rfl
@[simp] theorem State.jumpTo_pc : (s.jumpTo a).pc = a := rfl
@[simp] theorem State.jumpTo_mstatusMie : (s.jumpTo a).mstatusMie = s.mstatusMie := rfl
@[simp] theorem State.jumpTo_mstatusMpie : (s.jumpTo a).mstatusMpie = s.mstatusMpie := rfl
@[simp] theorem State.jumpTo_mieMsie : (s.jumpTo a).mieMsie = s.mieMsie := rfl
@[simp] theorem State.jumpTo_mieMtie : (s.jumpTo a).mieMtie = s.mieMtie := rfl
@[simp] theorem State.jumpTo_mieMeie : (s.jumpTo a).mieMeie = s.mieMeie := rfl
@[simp] theorem State.jumpTo_mtvecMode : (s.jumpTo a).mtvecMode = s.mtvecMode := rfl
@[simp] theorem State.jumpTo_mscratch : (s.jumpTo a).mscratch = s.mscratch := rfl
@[simp] theorem State.jumpTo_mepc : (s.jumpTo a).mepc = s.mepc := rfl
@[simp] theorem State.jumpTo_mcauseInt : (s.jumpTo a).mcauseInt = s.mcauseInt := rfl
@[simp] theorem State.jumpTo_mcauseEc : (s.jumpTo a).mcauseEc = s.mcauseEc := rfl
@[simp] theorem State.jumpTo_mtval : (s.jumpTo a).mtval = s.mtval := rfl
@[simp] theorem State.jumpTo_mcycle : (s.jumpTo a).mcycle = s.mcycle := rfl
@[simp] theorem State.jumpTo_minstret : (s.jumpTo a).minstret = s.retired := rfl
@[simp] theorem State.jumpTo_mcountenCy : (s.jumpTo a).mcountenCy = s.mcountenCy := rfl
@[simp] theorem State.jumpTo_mcountenIr : (s.jumpTo a).mcountenIr = s.mcountenIr := rfl
@[simp] theorem State.jumpTo_dbgScratch : (s.jumpTo a).dbgScratch = s.dbgScratch := rfl
@[simp] theorem State.jumpTo_timer : (s.jumpTo a).timer = s.timer := rfl
@[simp] theorem State.jumpTo_ipic : (s.jumpTo a).ipic = s.ipic := rfl
@[simp] theorem State.jumpTo_brkm : (s.jumpTo a).brkm = s.brkm := rfl
@[simp] theorem State.jumpTo_dbgc : (s.jumpTo a).dbgc = s.dbgc := rfl
@[simp] theorem State.jumpTo_tapc : (s.jumpTo a).tapc = s.tapc := rfl
@[simp] theorem State.jumpTo_tcm : (s.jumpTo a).tcm = s.tcm := rfl
@[simp] theorem State.jumpTo_ext : (s.jumpTo a).ext = s.ext := rfl
@[simp] theorem State.jumpTo_extI : (s.jumpTo a).extI = s.extI := rfl
@[simp] theorem State.jumpTo_fetchQueue : (s.jumpTo a).fetchQueue = s.fetchQueue := rfl
@[simp] theorem State.jumpTo_waiting : (s.jumpTo a).waiting = s.waiting := rfl
@[simp] theorem State.jumpTo_inReset : (s.jumpTo a).inReset = s.inReset := rfl
@[simp] theorem State.jumpTo_pins : (s.jumpTo a).pins = s.pins := rfl
@[simp] theorem State.jumpTo_env : (s.jumpTo a).env = s.env := rfl
@[simp] theorem State.jumpTo_freeIdx : (s.jumpTo a).freeIdx = s.freeIdx := rfl

end

/-! ### State.complete -/

section

variable (s : State) (len : Word)

@[simp] theorem State.complete_cfg : (s.complete len).cfg = s.cfg := rfl
@[simp] theorem State.complete_regs : (s.complete len).regs = s.regs := rfl
@[simp] theorem State.complete_pc : (s.complete len).pc = s.pc + len := rfl
@[simp] theorem State.complete_mstatusMie : (s.complete len).mstatusMie = s.mstatusMie := rfl
@[simp] theorem State.complete_mstatusMpie : (s.complete len).mstatusMpie = s.mstatusMpie := rfl
@[simp] theorem State.complete_mieMsie : (s.complete len).mieMsie = s.mieMsie := rfl
@[simp] theorem State.complete_mieMtie : (s.complete len).mieMtie = s.mieMtie := rfl
@[simp] theorem State.complete_mieMeie : (s.complete len).mieMeie = s.mieMeie := rfl
@[simp] theorem State.complete_mtvecMode : (s.complete len).mtvecMode = s.mtvecMode := rfl
@[simp] theorem State.complete_mscratch : (s.complete len).mscratch = s.mscratch := rfl
@[simp] theorem State.complete_mepc : (s.complete len).mepc = s.mepc := rfl
@[simp] theorem State.complete_mcauseInt : (s.complete len).mcauseInt = s.mcauseInt := rfl
@[simp] theorem State.complete_mcauseEc : (s.complete len).mcauseEc = s.mcauseEc := rfl
@[simp] theorem State.complete_mtval : (s.complete len).mtval = s.mtval := rfl
@[simp] theorem State.complete_mcycle : (s.complete len).mcycle = s.mcycle := rfl
@[simp] theorem State.complete_minstret : (s.complete len).minstret = s.retired := rfl
@[simp] theorem State.complete_mcountenCy : (s.complete len).mcountenCy = s.mcountenCy := rfl
@[simp] theorem State.complete_mcountenIr : (s.complete len).mcountenIr = s.mcountenIr := rfl
@[simp] theorem State.complete_dbgScratch : (s.complete len).dbgScratch = s.dbgScratch := rfl
@[simp] theorem State.complete_timer : (s.complete len).timer = s.timer := rfl
@[simp] theorem State.complete_ipic : (s.complete len).ipic = s.ipic := rfl
@[simp] theorem State.complete_brkm : (s.complete len).brkm = s.brkm := rfl
@[simp] theorem State.complete_dbgc : (s.complete len).dbgc = s.dbgc := rfl
@[simp] theorem State.complete_tapc : (s.complete len).tapc = s.tapc := rfl
@[simp] theorem State.complete_tcm : (s.complete len).tcm = s.tcm := rfl
@[simp] theorem State.complete_ext : (s.complete len).ext = s.ext := rfl
@[simp] theorem State.complete_extI : (s.complete len).extI = s.extI := rfl
@[simp] theorem State.complete_fetchQueue : (s.complete len).fetchQueue = s.fetchQueue := rfl
@[simp] theorem State.complete_waiting : (s.complete len).waiting = s.waiting := rfl
@[simp] theorem State.complete_inReset : (s.complete len).inReset = s.inReset := rfl
@[simp] theorem State.complete_pins : (s.complete len).pins = s.pins := rfl
@[simp] theorem State.complete_env : (s.complete len).env = s.env := rfl
@[simp] theorem State.complete_freeIdx : (s.complete len).freeIdx = s.freeIdx := rfl

end

/-! ### State.trapEntry -/

section

variable (s : State) (int : Bool) (code : BitVec 4) (epc tval : Word)

@[simp] theorem State.trapEntry_cfg : (s.trapEntry int code epc tval).cfg = s.cfg := rfl
@[simp] theorem State.trapEntry_regs : (s.trapEntry int code epc tval).regs = s.regs := rfl
@[simp] theorem State.trapEntry_pc : (s.trapEntry int code epc tval).pc = s.trapTarget int code := rfl
@[simp] theorem State.trapEntry_mstatusMie : (s.trapEntry int code epc tval).mstatusMie = false := rfl
@[simp] theorem State.trapEntry_mstatusMpie : (s.trapEntry int code epc tval).mstatusMpie = s.mstatusMie := rfl
@[simp] theorem State.trapEntry_mieMsie : (s.trapEntry int code epc tval).mieMsie = s.mieMsie := rfl
@[simp] theorem State.trapEntry_mieMtie : (s.trapEntry int code epc tval).mieMtie = s.mieMtie := rfl
@[simp] theorem State.trapEntry_mieMeie : (s.trapEntry int code epc tval).mieMeie = s.mieMeie := rfl
@[simp] theorem State.trapEntry_mtvecMode : (s.trapEntry int code epc tval).mtvecMode = s.mtvecMode := rfl
@[simp] theorem State.trapEntry_mscratch : (s.trapEntry int code epc tval).mscratch = s.mscratch := rfl
@[simp] theorem State.trapEntry_mepc : (s.trapEntry int code epc tval).mepc = epc &&& 0xFFFFFFFE#32 := rfl
@[simp] theorem State.trapEntry_mcauseInt : (s.trapEntry int code epc tval).mcauseInt = int := rfl
@[simp] theorem State.trapEntry_mcauseEc : (s.trapEntry int code epc tval).mcauseEc = code := rfl
@[simp] theorem State.trapEntry_mtval : (s.trapEntry int code epc tval).mtval = tval := rfl
@[simp] theorem State.trapEntry_mcycle : (s.trapEntry int code epc tval).mcycle = s.mcycle := rfl
@[simp] theorem State.trapEntry_minstret : (s.trapEntry int code epc tval).minstret = s.minstret := rfl
@[simp] theorem State.trapEntry_mcountenCy : (s.trapEntry int code epc tval).mcountenCy = s.mcountenCy := rfl
@[simp] theorem State.trapEntry_mcountenIr : (s.trapEntry int code epc tval).mcountenIr = s.mcountenIr := rfl
@[simp] theorem State.trapEntry_dbgScratch : (s.trapEntry int code epc tval).dbgScratch = s.dbgScratch := rfl
@[simp] theorem State.trapEntry_timer : (s.trapEntry int code epc tval).timer = s.timer := rfl
@[simp] theorem State.trapEntry_ipic : (s.trapEntry int code epc tval).ipic = s.ipic := rfl
@[simp] theorem State.trapEntry_brkm : (s.trapEntry int code epc tval).brkm = s.brkm := rfl
@[simp] theorem State.trapEntry_dbgc : (s.trapEntry int code epc tval).dbgc = s.dbgc := rfl
@[simp] theorem State.trapEntry_tapc : (s.trapEntry int code epc tval).tapc = s.tapc := rfl
@[simp] theorem State.trapEntry_tcm : (s.trapEntry int code epc tval).tcm = s.tcm := rfl
@[simp] theorem State.trapEntry_ext : (s.trapEntry int code epc tval).ext = s.ext := rfl
@[simp] theorem State.trapEntry_extI : (s.trapEntry int code epc tval).extI = s.extI := rfl
@[simp] theorem State.trapEntry_fetchQueue : (s.trapEntry int code epc tval).fetchQueue = s.fetchQueue := rfl
@[simp] theorem State.trapEntry_waiting : (s.trapEntry int code epc tval).waiting = false := rfl
@[simp] theorem State.trapEntry_inReset : (s.trapEntry int code epc tval).inReset = s.inReset := rfl
@[simp] theorem State.trapEntry_pins : (s.trapEntry int code epc tval).pins = s.pins := rfl
@[simp] theorem State.trapEntry_env : (s.trapEntry int code epc tval).env = s.env := rfl
@[simp] theorem State.trapEntry_freeIdx : (s.trapEntry int code epc tval).freeIdx = s.freeIdx := rfl

end

/-! ### State.trapReturn -/

section

variable (s : State)

@[simp] theorem State.trapReturn_cfg : (s.trapReturn).cfg = s.cfg := rfl
@[simp] theorem State.trapReturn_regs : (s.trapReturn).regs = s.regs := rfl
@[simp] theorem State.trapReturn_pc : (s.trapReturn).pc = s.mepc &&& 0xFFFFFFFE#32 := rfl
@[simp] theorem State.trapReturn_mstatusMie : (s.trapReturn).mstatusMie = s.mstatusMpie := rfl
@[simp] theorem State.trapReturn_mstatusMpie : (s.trapReturn).mstatusMpie = true := rfl
@[simp] theorem State.trapReturn_mieMsie : (s.trapReturn).mieMsie = s.mieMsie := rfl
@[simp] theorem State.trapReturn_mieMtie : (s.trapReturn).mieMtie = s.mieMtie := rfl
@[simp] theorem State.trapReturn_mieMeie : (s.trapReturn).mieMeie = s.mieMeie := rfl
@[simp] theorem State.trapReturn_mtvecMode : (s.trapReturn).mtvecMode = s.mtvecMode := rfl
@[simp] theorem State.trapReturn_mscratch : (s.trapReturn).mscratch = s.mscratch := rfl
@[simp] theorem State.trapReturn_mepc : (s.trapReturn).mepc = s.mepc := rfl
@[simp] theorem State.trapReturn_mcauseInt : (s.trapReturn).mcauseInt = s.mcauseInt := rfl
@[simp] theorem State.trapReturn_mcauseEc : (s.trapReturn).mcauseEc = s.mcauseEc := rfl
@[simp] theorem State.trapReturn_mtval : (s.trapReturn).mtval = s.mtval := rfl
@[simp] theorem State.trapReturn_mcycle : (s.trapReturn).mcycle = s.mcycle := rfl
@[simp] theorem State.trapReturn_minstret : (s.trapReturn).minstret = s.retired := rfl
@[simp] theorem State.trapReturn_mcountenCy : (s.trapReturn).mcountenCy = s.mcountenCy := rfl
@[simp] theorem State.trapReturn_mcountenIr : (s.trapReturn).mcountenIr = s.mcountenIr := rfl
@[simp] theorem State.trapReturn_dbgScratch : (s.trapReturn).dbgScratch = s.dbgScratch := rfl
@[simp] theorem State.trapReturn_timer : (s.trapReturn).timer = s.timer := rfl
@[simp] theorem State.trapReturn_ipic : (s.trapReturn).ipic = s.ipic := rfl
@[simp] theorem State.trapReturn_brkm : (s.trapReturn).brkm = s.brkm := rfl
@[simp] theorem State.trapReturn_dbgc : (s.trapReturn).dbgc = s.dbgc := rfl
@[simp] theorem State.trapReturn_tapc : (s.trapReturn).tapc = s.tapc := rfl
@[simp] theorem State.trapReturn_tcm : (s.trapReturn).tcm = s.tcm := rfl
@[simp] theorem State.trapReturn_ext : (s.trapReturn).ext = s.ext := rfl
@[simp] theorem State.trapReturn_extI : (s.trapReturn).extI = s.extI := rfl
@[simp] theorem State.trapReturn_fetchQueue : (s.trapReturn).fetchQueue = s.fetchQueue := rfl
@[simp] theorem State.trapReturn_waiting : (s.trapReturn).waiting = s.waiting := rfl
@[simp] theorem State.trapReturn_inReset : (s.trapReturn).inReset = s.inReset := rfl
@[simp] theorem State.trapReturn_pins : (s.trapReturn).pins = s.pins := rfl
@[simp] theorem State.trapReturn_env : (s.trapReturn).env = s.env := rfl
@[simp] theorem State.trapReturn_freeIdx : (s.trapReturn).freeIdx = s.freeIdx := rfl

end

/-! ### State.enterDebug -/

section

variable (s : State) (e : DebugEntry)

@[simp] theorem State.enterDebug_cfg : (s.enterDebug e).cfg = s.cfg := rfl
@[simp] theorem State.enterDebug_regs : (s.enterDebug e).regs = s.regs := rfl
@[simp] theorem State.enterDebug_pc : (s.enterDebug e).pc = s.pc := rfl
@[simp] theorem State.enterDebug_mstatusMie : (s.enterDebug e).mstatusMie = s.mstatusMie := rfl
@[simp] theorem State.enterDebug_mstatusMpie : (s.enterDebug e).mstatusMpie = s.mstatusMpie := rfl
@[simp] theorem State.enterDebug_mieMsie : (s.enterDebug e).mieMsie = s.mieMsie := rfl
@[simp] theorem State.enterDebug_mieMtie : (s.enterDebug e).mieMtie = s.mieMtie := rfl
@[simp] theorem State.enterDebug_mieMeie : (s.enterDebug e).mieMeie = s.mieMeie := rfl
@[simp] theorem State.enterDebug_mtvecMode : (s.enterDebug e).mtvecMode = s.mtvecMode := rfl
@[simp] theorem State.enterDebug_mscratch : (s.enterDebug e).mscratch = s.mscratch := rfl
@[simp] theorem State.enterDebug_mepc : (s.enterDebug e).mepc = s.mepc := rfl
@[simp] theorem State.enterDebug_mcauseInt : (s.enterDebug e).mcauseInt = s.mcauseInt := rfl
@[simp] theorem State.enterDebug_mcauseEc : (s.enterDebug e).mcauseEc = s.mcauseEc := rfl
@[simp] theorem State.enterDebug_mtval : (s.enterDebug e).mtval = s.mtval := rfl
@[simp] theorem State.enterDebug_mcycle : (s.enterDebug e).mcycle = s.mcycle := rfl
@[simp] theorem State.enterDebug_minstret : (s.enterDebug e).minstret = s.minstret := rfl
@[simp] theorem State.enterDebug_mcountenCy : (s.enterDebug e).mcountenCy = s.mcountenCy := rfl
@[simp] theorem State.enterDebug_mcountenIr : (s.enterDebug e).mcountenIr = s.mcountenIr := rfl
@[simp] theorem State.enterDebug_dbgScratch : (s.enterDebug e).dbgScratch = s.dbgScratch := rfl
@[simp] theorem State.enterDebug_timer : (s.enterDebug e).timer = s.timer := rfl
@[simp] theorem State.enterDebug_ipic : (s.enterDebug e).ipic = s.ipic := rfl
@[simp] theorem State.enterDebug_brkm : (s.enterDebug e).brkm = s.brkm := rfl
@[simp] theorem State.enterDebug_dbgc :
    (s.enterDebug e).dbgc = { s.dbgc with dmode := true, dmodeCause := e.cause, resumed := false } := rfl
@[simp] theorem State.enterDebug_tapc : (s.enterDebug e).tapc = s.tapc := rfl
@[simp] theorem State.enterDebug_tcm : (s.enterDebug e).tcm = s.tcm := rfl
@[simp] theorem State.enterDebug_ext : (s.enterDebug e).ext = s.ext := rfl
@[simp] theorem State.enterDebug_extI : (s.enterDebug e).extI = s.extI := rfl
@[simp] theorem State.enterDebug_fetchQueue : (s.enterDebug e).fetchQueue = s.fetchQueue := rfl
@[simp] theorem State.enterDebug_waiting : (s.enterDebug e).waiting = false := rfl
@[simp] theorem State.enterDebug_inReset : (s.enterDebug e).inReset = s.inReset := rfl
@[simp] theorem State.enterDebug_pins : (s.enterDebug e).pins = s.pins := rfl
@[simp] theorem State.enterDebug_env : (s.enterDebug e).env = s.env := rfl
@[simp] theorem State.enterDebug_freeIdx : (s.enterDebug e).freeIdx = s.freeIdx := rfl

end

/-! ### State.marked -/

section

variable (s : State) (hits : List Bool)

@[simp] theorem State.marked_cfg : (s.marked hits).cfg = s.cfg := rfl
@[simp] theorem State.marked_regs : (s.marked hits).regs = s.regs := rfl
@[simp] theorem State.marked_pc : (s.marked hits).pc = s.pc := rfl
@[simp] theorem State.marked_mstatusMie : (s.marked hits).mstatusMie = s.mstatusMie := rfl
@[simp] theorem State.marked_mstatusMpie : (s.marked hits).mstatusMpie = s.mstatusMpie := rfl
@[simp] theorem State.marked_mieMsie : (s.marked hits).mieMsie = s.mieMsie := rfl
@[simp] theorem State.marked_mieMtie : (s.marked hits).mieMtie = s.mieMtie := rfl
@[simp] theorem State.marked_mieMeie : (s.marked hits).mieMeie = s.mieMeie := rfl
@[simp] theorem State.marked_mtvecMode : (s.marked hits).mtvecMode = s.mtvecMode := rfl
@[simp] theorem State.marked_mscratch : (s.marked hits).mscratch = s.mscratch := rfl
@[simp] theorem State.marked_mepc : (s.marked hits).mepc = s.mepc := rfl
@[simp] theorem State.marked_mcauseInt : (s.marked hits).mcauseInt = s.mcauseInt := rfl
@[simp] theorem State.marked_mcauseEc : (s.marked hits).mcauseEc = s.mcauseEc := rfl
@[simp] theorem State.marked_mtval : (s.marked hits).mtval = s.mtval := rfl
@[simp] theorem State.marked_mcycle : (s.marked hits).mcycle = s.mcycle := rfl
@[simp] theorem State.marked_minstret : (s.marked hits).minstret = s.minstret := rfl
@[simp] theorem State.marked_mcountenCy : (s.marked hits).mcountenCy = s.mcountenCy := rfl
@[simp] theorem State.marked_mcountenIr : (s.marked hits).mcountenIr = s.mcountenIr := rfl
@[simp] theorem State.marked_dbgScratch : (s.marked hits).dbgScratch = s.dbgScratch := rfl
@[simp] theorem State.marked_timer : (s.marked hits).timer = s.timer := rfl
@[simp] theorem State.marked_ipic : (s.marked hits).ipic = s.ipic := rfl
@[simp] theorem State.marked_brkm : (s.marked hits).brkm = { s.brkm with bps := markAll s.brkm.bps hits } := rfl
@[simp] theorem State.marked_dbgc : (s.marked hits).dbgc = s.dbgc := rfl
@[simp] theorem State.marked_tapc : (s.marked hits).tapc = s.tapc := rfl
@[simp] theorem State.marked_tcm : (s.marked hits).tcm = s.tcm := rfl
@[simp] theorem State.marked_ext : (s.marked hits).ext = s.ext := rfl
@[simp] theorem State.marked_extI : (s.marked hits).extI = s.extI := rfl
@[simp] theorem State.marked_fetchQueue : (s.marked hits).fetchQueue = s.fetchQueue := rfl
@[simp] theorem State.marked_waiting : (s.marked hits).waiting = s.waiting := rfl
@[simp] theorem State.marked_inReset : (s.marked hits).inReset = s.inReset := rfl
@[simp] theorem State.marked_pins : (s.marked hits).pins = s.pins := rfl
@[simp] theorem State.marked_env : (s.marked hits).env = s.env := rfl
@[simp] theorem State.marked_freeIdx : (s.marked hits).freeIdx = s.freeIdx := rfl

end

/-! ### State.storeTcm -/

section

variable (s : State) (off n : Nat) (v : Word)

@[simp] theorem State.storeTcm_cfg : (s.storeTcm off n v).cfg = s.cfg := rfl
@[simp] theorem State.storeTcm_regs : (s.storeTcm off n v).regs = s.regs := rfl
@[simp] theorem State.storeTcm_pc : (s.storeTcm off n v).pc = s.pc := rfl
@[simp] theorem State.storeTcm_mstatusMie : (s.storeTcm off n v).mstatusMie = s.mstatusMie := rfl
@[simp] theorem State.storeTcm_mstatusMpie : (s.storeTcm off n v).mstatusMpie = s.mstatusMpie := rfl
@[simp] theorem State.storeTcm_mieMsie : (s.storeTcm off n v).mieMsie = s.mieMsie := rfl
@[simp] theorem State.storeTcm_mieMtie : (s.storeTcm off n v).mieMtie = s.mieMtie := rfl
@[simp] theorem State.storeTcm_mieMeie : (s.storeTcm off n v).mieMeie = s.mieMeie := rfl
@[simp] theorem State.storeTcm_mtvecMode : (s.storeTcm off n v).mtvecMode = s.mtvecMode := rfl
@[simp] theorem State.storeTcm_mscratch : (s.storeTcm off n v).mscratch = s.mscratch := rfl
@[simp] theorem State.storeTcm_mepc : (s.storeTcm off n v).mepc = s.mepc := rfl
@[simp] theorem State.storeTcm_mcauseInt : (s.storeTcm off n v).mcauseInt = s.mcauseInt := rfl
@[simp] theorem State.storeTcm_mcauseEc : (s.storeTcm off n v).mcauseEc = s.mcauseEc := rfl
@[simp] theorem State.storeTcm_mtval : (s.storeTcm off n v).mtval = s.mtval := rfl
@[simp] theorem State.storeTcm_mcycle : (s.storeTcm off n v).mcycle = s.mcycle := rfl
@[simp] theorem State.storeTcm_minstret : (s.storeTcm off n v).minstret = s.minstret := rfl
@[simp] theorem State.storeTcm_mcountenCy : (s.storeTcm off n v).mcountenCy = s.mcountenCy := rfl
@[simp] theorem State.storeTcm_mcountenIr : (s.storeTcm off n v).mcountenIr = s.mcountenIr := rfl
@[simp] theorem State.storeTcm_dbgScratch : (s.storeTcm off n v).dbgScratch = s.dbgScratch := rfl
@[simp] theorem State.storeTcm_timer : (s.storeTcm off n v).timer = s.timer := rfl
@[simp] theorem State.storeTcm_ipic : (s.storeTcm off n v).ipic = s.ipic := rfl
@[simp] theorem State.storeTcm_brkm : (s.storeTcm off n v).brkm = s.brkm := rfl
@[simp] theorem State.storeTcm_dbgc : (s.storeTcm off n v).dbgc = s.dbgc := rfl
@[simp] theorem State.storeTcm_tapc : (s.storeTcm off n v).tapc = s.tapc := rfl
@[simp] theorem State.storeTcm_tcm : (s.storeTcm off n v).tcm = Memory.storeLE s.tcm off n v := rfl
@[simp] theorem State.storeTcm_ext : (s.storeTcm off n v).ext = s.ext := rfl
@[simp] theorem State.storeTcm_extI : (s.storeTcm off n v).extI = s.extI := rfl
@[simp] theorem State.storeTcm_fetchQueue : (s.storeTcm off n v).fetchQueue = s.fetchQueue := rfl
@[simp] theorem State.storeTcm_waiting : (s.storeTcm off n v).waiting = s.waiting := rfl
@[simp] theorem State.storeTcm_inReset : (s.storeTcm off n v).inReset = s.inReset := rfl
@[simp] theorem State.storeTcm_pins : (s.storeTcm off n v).pins = s.pins := rfl
@[simp] theorem State.storeTcm_env : (s.storeTcm off n v).env = s.env := rfl
@[simp] theorem State.storeTcm_freeIdx : (s.storeTcm off n v).freeIdx = s.freeIdx := rfl

end

/-! ### State.storeExt -/

section

variable (s : State) (a n : Nat) (v : Word)

@[simp] theorem State.storeExt_cfg : (s.storeExt a n v).cfg = s.cfg := rfl
@[simp] theorem State.storeExt_regs : (s.storeExt a n v).regs = s.regs := rfl
@[simp] theorem State.storeExt_pc : (s.storeExt a n v).pc = s.pc := rfl
@[simp] theorem State.storeExt_mstatusMie : (s.storeExt a n v).mstatusMie = s.mstatusMie := rfl
@[simp] theorem State.storeExt_mstatusMpie : (s.storeExt a n v).mstatusMpie = s.mstatusMpie := rfl
@[simp] theorem State.storeExt_mieMsie : (s.storeExt a n v).mieMsie = s.mieMsie := rfl
@[simp] theorem State.storeExt_mieMtie : (s.storeExt a n v).mieMtie = s.mieMtie := rfl
@[simp] theorem State.storeExt_mieMeie : (s.storeExt a n v).mieMeie = s.mieMeie := rfl
@[simp] theorem State.storeExt_mtvecMode : (s.storeExt a n v).mtvecMode = s.mtvecMode := rfl
@[simp] theorem State.storeExt_mscratch : (s.storeExt a n v).mscratch = s.mscratch := rfl
@[simp] theorem State.storeExt_mepc : (s.storeExt a n v).mepc = s.mepc := rfl
@[simp] theorem State.storeExt_mcauseInt : (s.storeExt a n v).mcauseInt = s.mcauseInt := rfl
@[simp] theorem State.storeExt_mcauseEc : (s.storeExt a n v).mcauseEc = s.mcauseEc := rfl
@[simp] theorem State.storeExt_mtval : (s.storeExt a n v).mtval = s.mtval := rfl
@[simp] theorem State.storeExt_mcycle : (s.storeExt a n v).mcycle = s.mcycle := rfl
@[simp] theorem State.storeExt_minstret : (s.storeExt a n v).minstret = s.minstret := rfl
@[simp] theorem State.storeExt_mcountenCy : (s.storeExt a n v).mcountenCy = s.mcountenCy := rfl
@[simp] theorem State.storeExt_mcountenIr : (s.storeExt a n v).mcountenIr = s.mcountenIr := rfl
@[simp] theorem State.storeExt_dbgScratch : (s.storeExt a n v).dbgScratch = s.dbgScratch := rfl
@[simp] theorem State.storeExt_timer : (s.storeExt a n v).timer = s.timer := rfl
@[simp] theorem State.storeExt_ipic : (s.storeExt a n v).ipic = s.ipic := rfl
@[simp] theorem State.storeExt_brkm : (s.storeExt a n v).brkm = s.brkm := rfl
@[simp] theorem State.storeExt_dbgc : (s.storeExt a n v).dbgc = s.dbgc := rfl
@[simp] theorem State.storeExt_tapc : (s.storeExt a n v).tapc = s.tapc := rfl
@[simp] theorem State.storeExt_tcm : (s.storeExt a n v).tcm = s.tcm := rfl
@[simp] theorem State.storeExt_ext : (s.storeExt a n v).ext = Memory.storeLE s.ext a n v := rfl
@[simp] theorem State.storeExt_extI : (s.storeExt a n v).extI = s.extI := rfl
@[simp] theorem State.storeExt_fetchQueue : (s.storeExt a n v).fetchQueue = s.fetchQueue := rfl
@[simp] theorem State.storeExt_waiting : (s.storeExt a n v).waiting = s.waiting := rfl
@[simp] theorem State.storeExt_inReset : (s.storeExt a n v).inReset = s.inReset := rfl
@[simp] theorem State.storeExt_pins : (s.storeExt a n v).pins = s.pins := rfl
@[simp] theorem State.storeExt_env : (s.storeExt a n v).env = s.env := rfl
@[simp] theorem State.storeExt_freeIdx : (s.storeExt a n v).freeIdx = s.freeIdx := rfl

end

/-! ### State.storeTimer -/

section

variable (s : State) (off : Nat) (v : Word)

@[simp] theorem State.storeTimer_cfg : (s.storeTimer off v).cfg = s.cfg := rfl
@[simp] theorem State.storeTimer_regs : (s.storeTimer off v).regs = s.regs := rfl
@[simp] theorem State.storeTimer_pc : (s.storeTimer off v).pc = s.pc := rfl
@[simp] theorem State.storeTimer_mstatusMie : (s.storeTimer off v).mstatusMie = s.mstatusMie := rfl
@[simp] theorem State.storeTimer_mstatusMpie : (s.storeTimer off v).mstatusMpie = s.mstatusMpie := rfl
@[simp] theorem State.storeTimer_mieMsie : (s.storeTimer off v).mieMsie = s.mieMsie := rfl
@[simp] theorem State.storeTimer_mieMtie : (s.storeTimer off v).mieMtie = s.mieMtie := rfl
@[simp] theorem State.storeTimer_mieMeie : (s.storeTimer off v).mieMeie = s.mieMeie := rfl
@[simp] theorem State.storeTimer_mtvecMode : (s.storeTimer off v).mtvecMode = s.mtvecMode := rfl
@[simp] theorem State.storeTimer_mscratch : (s.storeTimer off v).mscratch = s.mscratch := rfl
@[simp] theorem State.storeTimer_mepc : (s.storeTimer off v).mepc = s.mepc := rfl
@[simp] theorem State.storeTimer_mcauseInt : (s.storeTimer off v).mcauseInt = s.mcauseInt := rfl
@[simp] theorem State.storeTimer_mcauseEc : (s.storeTimer off v).mcauseEc = s.mcauseEc := rfl
@[simp] theorem State.storeTimer_mtval : (s.storeTimer off v).mtval = s.mtval := rfl
@[simp] theorem State.storeTimer_mcycle : (s.storeTimer off v).mcycle = s.mcycle := rfl
@[simp] theorem State.storeTimer_minstret : (s.storeTimer off v).minstret = s.minstret := rfl
@[simp] theorem State.storeTimer_mcountenCy : (s.storeTimer off v).mcountenCy = s.mcountenCy := rfl
@[simp] theorem State.storeTimer_mcountenIr : (s.storeTimer off v).mcountenIr = s.mcountenIr := rfl
@[simp] theorem State.storeTimer_dbgScratch : (s.storeTimer off v).dbgScratch = s.dbgScratch := rfl
@[simp] theorem State.storeTimer_timer :
    (s.storeTimer off v).timer = s.timer.write off v (Config.freePhase s.freeIdx) := rfl
@[simp] theorem State.storeTimer_ipic : (s.storeTimer off v).ipic = s.ipic := rfl
@[simp] theorem State.storeTimer_brkm : (s.storeTimer off v).brkm = s.brkm := rfl
@[simp] theorem State.storeTimer_dbgc : (s.storeTimer off v).dbgc = s.dbgc := rfl
@[simp] theorem State.storeTimer_tapc : (s.storeTimer off v).tapc = s.tapc := rfl
@[simp] theorem State.storeTimer_tcm : (s.storeTimer off v).tcm = s.tcm := rfl
@[simp] theorem State.storeTimer_ext : (s.storeTimer off v).ext = s.ext := rfl
@[simp] theorem State.storeTimer_extI : (s.storeTimer off v).extI = s.extI := rfl
@[simp] theorem State.storeTimer_fetchQueue : (s.storeTimer off v).fetchQueue = s.fetchQueue := rfl
@[simp] theorem State.storeTimer_waiting : (s.storeTimer off v).waiting = s.waiting := rfl
@[simp] theorem State.storeTimer_inReset : (s.storeTimer off v).inReset = s.inReset := rfl
@[simp] theorem State.storeTimer_pins : (s.storeTimer off v).pins = s.pins := rfl
@[simp] theorem State.storeTimer_env : (s.storeTimer off v).env = s.env := rfl
@[simp] theorem State.storeTimer_freeIdx : (s.storeTimer off v).freeIdx = s.freeIdx := rfl

end

end Sys2Proof.Machine
end

