-- ==== Sys2Proof/Laws/Ops.lean ====
section
/-! SUPPORT. For each shared operation one lemma that says once what it can do; proofs about instructions cite these. -/

namespace Sys2Proof.Machine

open Sys2Proof

/-! ### Registers -/

@[simp] theorem State.reg_zero (s : State) : s.reg 0#5 = 0#32 := by simp [State.reg]

/-- A register after a register write: the written one holds the value, unless it is x0. -/
theorem State.reg_setReg (s : State) (r q : Reg) (v : Word) :
    (s.setReg r v).reg q = if q = r ∧ q ≠ 0#5 then v else s.reg q := by
  unfold State.reg
  by_cases hq : q = 0#5
  · simp [hq]
  · simp only [hq, if_false, State.setReg_regs, ne_eq, not_false_eq_true, and_true]
    by_cases hr : r = 0#5
    · simp [hr, hq]
    · by_cases h : q = r
      · subst h; simp [hq]
      · have hn : ¬ r.toNat = q.toNat := fun e => h (BitVec.eq_of_toNat_eq e.symm)
        simp [hr, h, Vector.getElem_set_ne _ _ hn]

@[simp] theorem State.jumpTo_reg (s : State) (a : Word) (r : Reg) : (s.jumpTo a).reg r = s.reg r := rfl
@[simp] theorem State.complete_reg (s : State) (l : Word) (r : Reg) : (s.complete l).reg r = s.reg r := rfl
@[simp] theorem State.trapEntry_reg (s : State) (i : Bool) (c : BitVec 4) (e t : Word) (r : Reg) :
    (s.trapEntry i c e t).reg r = s.reg r := rfl
@[simp] theorem State.trapReturn_reg (s : State) (r : Reg) : s.trapReturn.reg r = s.reg r := rfl
@[simp] theorem State.enterDebug_reg (s : State) (e : DebugEntry) (r : Reg) :
    (s.enterDebug e).reg r = s.reg r := rfl
@[simp] theorem State.storeTcm_reg (s : State) (a n : Nat) (v : Word) (r : Reg) :
    (s.storeTcm a n v).reg r = s.reg r := rfl
@[simp] theorem State.storeExt_reg (s : State) (a n : Nat) (v : Word) (r : Reg) :
    (s.storeExt a n v).reg r = s.reg r := rfl
@[simp] theorem State.storeTimer_reg (s : State) (a : Nat) (v : Word) (r : Reg) :
    (s.storeTimer a v).reg r = s.reg r := rfl
@[simp] theorem State.marked_reg (s : State) (hits : List Bool) (r : Reg) : (s.marked hits).reg r = s.reg r := rfl

@[simp] theorem State.setReg_retired (s : State) (r : Reg) (v : Word) : (s.setReg r v).retired = s.retired := rfl

/-! ### Results -/

/-- `raise` always goes on at the trap target. -/
theorem State.raise_eq (s : State) (e : Cause) (info : Word) :
    s.raise e info = .next (s.trapEntry false e.code s.pc info) := rfl

theorem State.finish_eq (s : State) (rd : Reg) (v len : Word) :
    s.finish rd v len = .next ((s.setReg rd v).complete len) := rfl

/-- A breakpoint event goes to the trap handler or to the debugger. -/
theorem State.breakpointEvent_cases (s : State) (info : Word) :
    s.breakpointEvent info = .next (s.trapEntry false 3#4 s.pc info) ∨
      s.breakpointEvent info = .next (s.enterDebug .brkpt) := by
  unfold State.breakpointEvent
  split
  · exact .inr rfl
  · exact .inl rfl

/-! ### Data accesses -/

/-- What the breakpoint check of an access can do: let it through, with MATCHED bits set at most, or end it. -/
theorem State.bpReact_cases (s : State) (hits : List Bool) (a : Word) :
    s.bpReact hits a = .done (s.marked hits) () ∨
      s.bpReact hits a = .ended ((s.marked hits).breakpointEvent a) ∨
      s.bpReact hits a = .ended (.next ((s.marked hits).enterDebug .hwBrkpt)) ∨
      s.bpReact hits a = .ended (.refused .reservedBreakpointAction) := by
  unfold State.bpReact
  split <;> simp

theorem State.bpCheckData_quiet {s : State} {k : AccessKind} {a : Word} {n : Nat}
    (h : s.bpQuiet (bpKindOf k) a n = true) : s.bpCheckData k a n = .done s () := by
  simp [State.bpCheckData, h]

/-- MemRead when no breakpoint matches. -/
theorem State.memRead_quiet {s : State} {a : Word} {n : Nat} (h : s.bpQuiet .load a n = true) :
    s.memRead a n =
      match dataPlace s.cfg .load a n with
      | .misaligned => .ended (s.raise .loadAddrMisaligned a)
      | .noAnswer => .ended (s.raise .loadAccessFault a)
      | .timer off => .done s (s.timer.read off)
      | .timerHole => .ended (.fault .timerReservedOffset)
      | .tcm off => .done s (readLE (s.byte .tcm) off n)
      | .tcmBeyond => .ended (.fault .tcmBeyondSize)
      | .device => .ended (.refused .deviceAccess)
      | .ext e => .done s (readLE (s.byte .ext) e n) := by
  cases hp : dataPlace s.cfg .load a n <;> simp only [State.memRead, State.bpCheckData_quiet (k := .load) h, hp]

/-- MemWrite when no breakpoint matches. -/
theorem State.memWrite_quiet {s : State} {a : Word} {n : Nat} {v : Word} (h : s.bpQuiet .store a n = true) :
    s.memWrite a n v =
      match dataPlace s.cfg .store a n with
      | .misaligned => .ended (s.raise .storeAddrMisaligned a)
      | .noAnswer => .ended (s.raise .storeAccessFault a)
      | .timer off => .done (s.storeTimer off v) ()
      | .timerHole => .ended (.fault .timerReservedOffset)
      | .tcm off => .done (s.storeTcm off n v) ()
      | .tcmBeyond => .ended (.fault .tcmBeyondSize)
      | .device => .ended (.refused .deviceAccess)
      | .ext e => .done (s.storeExt e n v) () := by
  cases hp : dataPlace s.cfg .store a n <;> simp only [State.memWrite, State.bpCheckData_quiet (k := .store) h, hp]

/-! ### CSR instructions -/

/-- A CSR instruction on a register that exists and that it may access this way. -/
theorem State.csrOp_access {s : State} {rd : Reg} {a : CsrAddr} {w : CsrWrite} {inst : Word} {c : Csr}
    (hc : csrAt s.cfg a = some c) (hr : (w.writes && csrReadOnly a) = false)
    (hi : (w.setsOrClears && c.isIpic) = false) : s.csrOp rd a w inst = s.csrAccess rd c w := by
  simp [State.csrOp, hc, hr, hi]

/-- A CSR instruction that raises IllegalInstruction: the CSR does not exist, or it is read-only and written. -/
theorem State.csrOp_illegal {s : State} {rd : Reg} {a : CsrAddr} {w : CsrWrite} {inst : Word}
    (h : csrAt s.cfg a = none ∨ (w.writes && csrReadOnly a) = true) :
    s.csrOp rd a w inst = s.raise .illegalInstruction inst := by
  unfold State.csrOp
  cases hc : csrAt s.cfg a with
  | none => rfl
  | some c => rcases h with h | h <;> simp_all

/-- The bits 11..10 of the address of every CSR that can be written are not 11, so a write never reaches one that
is read-only. -/
theorem State.csrWriteBack_keep (s : State) (c : Csr) : s.csrWriteBack c none = .ok s := rfl

/-! ### The step -/

@[simp] theorem mapNext_next (t : State) (f : State → State) : mapNext (.next t) f = .next (f t) := rfl

/-- Outside a single step, nothing is added after an instruction. -/
theorem State.afterInstr_of_not_resumed {t : State} (h : t.dbgc.resumed = false) : t.afterInstr = t := by
  simp [State.afterInstr, h]

theorem State.wake_of_not_waiting {s : State} (h : s.waiting = false) : s.wake = s := by simp [State.wake, h]

/-- Steps 1 to 8 when the hart executes an instruction. -/
theorem State.runMode_instr {s : State} (hd : s.dbgc.dmode = false) (hw : s.waiting = false)
    (hi : s.takesInterrupt = false) : s.runMode = mapNext s.instrStep State.afterInstr := by
  simp [State.runMode, hd, hw, hi, State.wake_of_not_waiting hw]

/-- The hart's step outside reset. -/
theorem State.hartStep_run {s : State} (hr : s.resetAsserted = false) (hi : s.inReset = false) :
    s.hartStep = s.runMode := by
  simp [State.hartStep, hr, hi]

/-- One step, once the hart's step is known. -/
theorem State.machineStep_next {s t : State} (hl : s.cfg.legal = true) (h : s.hartStep = .next t) :
    s.machineStep = t.hostPhase s.slot.moves := by
  simp [State.machineStep, hl, h]

end Sys2Proof.Machine
end

