-- ==== Sys2Proof/Laws/Results.lean ====
section
/-! SUPPORT. The vocabulary of Safety.lean met by the shared operations: what completing an instruction, taking a trap and
going to Debug-Mode leave. -/

namespace Sys2Proof.Machine

open Sys2Proof

/-- Two states with the same memories. -/
theorem SameMemory.of_eq {s t : State} (h1 : t.tcm = s.tcm) (h2 : t.ext = s.ext) (h3 : t.extI = s.extI) : SameMemory s t :=
  ⟨fun _ => by rw [h1], fun _ => by rw [h2], fun _ => by rw [h3]⟩

/-- countsInstret says what CountingOn says. -/
theorem countsInstret_iff (s : State) : s.countsInstret = true ↔ CountingOn s := by
  unfold State.countsInstret CountingOn Config.mcountenPresent
  cases s.cfg.csrMcountenEn <;> cases s.cfg.cntCsrsPresent <;> cases s.mcountenIr <;> simp

/-- A state whose minstret is the retired count is counted. -/
theorem Counted.of_retired {s t : State} (h : t.minstret = s.retired) : Counted s t := by
  unfold State.retired at h
  constructor
  · intro hc
    rw [h, if_pos ((countsInstret_iff s).mpr hc)]
  · intro hc
    rw [h, if_neg (fun h' => hc ((countsInstret_iff s).mp h'))]

/-- A register write meets RegResult. -/
theorem RegResult.of_setReg {s t : State} {rd : Reg} {v : Word} (h : t.regs = (s.setReg rd v).regs) :
    RegResult s t rd v := by
  have hr : ∀ q, t.reg q = (s.setReg rd v).reg q := fun q => by simp only [State.reg, h]
  refine ⟨fun hd => ?_, ?_, fun r hne => ?_⟩
  · rw [hr, State.reg_setReg]; simp [hd]
  · simp
  · rw [hr, State.reg_setReg]; simp [hne]

/-- What the hart does with what it fetched: it decodes and runs it, but the zero halfword without the C extension may raise
with the whole word instead. -/
theorem State.runFetched_eq (s : State) (p : Parcel) :
    (s.cfg.rvc = false → s.runFetched (.c16 0#16) = s.raise .illegalInstruction s.zeroHalfValue ∨
      s.runFetched (.c16 0#16) = s.runParcel (.c16 0#16)) ∧
    (s.cfg.rvc = true ∨ p ≠ .c16 0#16 → s.runFetched p = s.runParcel p) := by
  unfold State.runFetched
  refine ⟨fun h => ?_, ?_⟩
  · cases Config.freeZeroHalfWord s.freeIdx <;> simp [h]
  · rintro (h | h) <;> simp [h]

/-- What the end of a compressed shift can do: the refusal for a shift amount of 0, `finish` for every other. -/
theorem State.finishShiftC_eq (s : State) (rd : Reg) (shamt : BitVec 5) (v : Word) :
    (shamt = 0#5 → s.finishShiftC rd shamt v = .refused .compressedShiftByZero) ∧
    (shamt ≠ 0#5 → s.finishShiftC rd shamt v = s.finish rd v 2#32) :=
  ⟨fun h => if_pos h, fun h => if_neg h⟩

/-- What `finish` leaves. -/
theorem RegDone.of_finish (s : State) (rd : Reg) (v len : Word) :
    RegDone s ((s.setReg rd v).complete len) rd v (s.pc + len) :=
  ⟨RegResult.of_setReg rfl, rfl, Counted.of_retired rfl, SameMemory.of_eq rfl rfl rfl, rfl⟩

/-- What a jump with a link leaves. -/
theorem RegDone.of_jump (s : State) (rd : Reg) (v target : Word) :
    RegDone s ((s.setReg rd v).jumpTo target) rd v target :=
  ⟨RegResult.of_setReg rfl, rfl, Counted.of_retired rfl, SameMemory.of_eq rfl rfl rfl, rfl⟩

/-- What a transfer without a link leaves. -/
theorem FlowDone.of_jumpTo (s : State) (target : Word) : FlowDone s (s.jumpTo target) target :=
  ⟨fun _ => rfl, rfl, Counted.of_retired rfl, SameMemory.of_eq rfl rfl rfl, rfl⟩

/-- What an instruction without a result leaves. -/
theorem FlowDone.of_complete (s : State) (len : Word) : FlowDone s (s.complete len) (s.pc + len) :=
  FlowDone.of_jumpTo s _

/-- The trap target is the one the spec states (R521). -/
theorem TargetIs.of_trapTarget (s : State) (int : Bool) (code : BitVec 4) : TargetIs s int code (s.trapTarget int code) := by
  have hw : (4#32 * code.setWidth 32 : Word) = BitVec.ofNat 32 (4 * code.toNat) := by
    apply BitVec.eq_of_toNat_eq
    simp [BitVec.toNat_mul, BitVec.toNat_setWidth]
  constructor
  · rintro (h | h) <;> simp [State.trapTarget, State.mtvecModeNow, State.trapBase, h]
  · intro h hi
    cases hv : s.cfg.vectIrqEn <;> simp [State.trapTarget, State.mtvecModeNow, State.trapBase, h, hi, hv]
  · intro hv h hi
    simp [State.trapTarget, State.mtvecModeNow, State.trapBase, h, hi, hv, ← hw]

/-- What `raise` leaves. -/
theorem TrapTaken.of_raise (s : State) (e : Cause) (info : Word) :
    TrapTaken s (s.trapEntry false e.code s.pc info) false e.code s.pc (some info) :=
  ⟨rfl, ⟨rfl, rfl⟩, fun _ h => Option.some.inj h, rfl, rfl, TargetIs.of_trapTarget s false e.code, rfl, fun _ => rfl,
    SameMemory.of_eq rfl rfl rfl, rfl⟩

/-- An instruction that raises traps. -/
theorem Traps.of_raise {i : Instr} {s : State} {e : Cause} {info : Word} (h : exec i s = s.raise e info) :
    Traps i s e.code (some info) := ⟨_, h, TrapTaken.of_raise s e info⟩

/-- What entry to Debug-Mode leaves. -/
theorem DebugEntered.of_enterDebug (s : State) (e : DebugEntry) : DebugEntered s (s.enterDebug e) :=
  ⟨rfl, rfl, fun _ => rfl, SameMemory.of_eq rfl rfl rfl, rfl⟩

end Sys2Proof.Machine
end

