-- ==== Sys2Proof/Laws/Csr.lean ====
section
/-! SUPPORT. The CSR instructions that write, by their shapes (Safety.lean): which state each answers, what it leaves, and
the value of a register assembled from its fields. -/

namespace Sys2Proof.Machine

open Sys2Proof

/-! ### The state after a CSR instruction that writes -/

/-- A CSR instruction whose write succeeds goes on from the state after the write. -/
theorem State.csrOp_writes {s t : State} {rd : Reg} {a : CsrAddr} {w : CsrWrite} {inst v : Word} {c : Csr}
    (hc : csrAt s.cfg a = some c) (hr : csrReadOnly a = false) (hi : (w.setsOrClears && c.isIpic) = false)
    (hv : w.value (s.readCsr c) = some v) (ht : s.writeCsr c v = .ok t) :
    s.csrOp rd a w inst = .next (s.csrEnd t rd c true) := by
  have hw : w.writes = true := by cases w <;> simp_all [CsrWrite.value, CsrWrite.writes]
  rw [State.csrOp_access hc (by simp [hr]) hi, State.csrAccess, hv, State.csrWriteBack, ht]
  simp only [hw]

/-- A CSR instruction whose write is refused is refused. -/
theorem State.csrOp_refused {s : State} {rd : Reg} {a : CsrAddr} {w : CsrWrite} {inst v : Word} {c : Csr} {e : Refusal}
    (hc : csrAt s.cfg a = some c) (hr : csrReadOnly a = false) (hi : (w.setsOrClears && c.isIpic) = false)
    (hv : w.value (s.readCsr c) = some v) (ht : s.writeCsr c v = .error e) : s.csrOp rd a w inst = .refused e := by
  rw [State.csrOp_access hc (by simp [hr]) hi, State.csrAccess, hv, State.csrWriteBack, ht]

/-- What an instruction of csrWriteShape does: CsrOp with a write whose value is the shape's. -/
theorem exec_csrWriteShape {s : State} {i : Instr} {f : CsrShape} (h : csrWriteShape s i = some f) :
    ∃ w inst, exec i s = s.csrOp f.rd f.addr w inst ∧ ∀ old, w.value old = some (f.new old) := by
  cases i <;> simp only [csrWriteShape, reduceCtorEq, Option.some.injEq, Option.ite_none_left_eq_some] at h
  case csrrw => subst h; exact ⟨_, _, rfl, fun _ => rfl⟩
  case csrrwi => subst h; exact ⟨_, _, rfl, fun _ => rfl⟩
  all_goals
    obtain ⟨h0, h⟩ := h
    subst h
    exact ⟨_, _, rfl, fun _ => by simp [fromReg, fromImm, h0, CsrWrite.value, zext]⟩

/-- CSRRW and CSRRWI replace: they do not set or clear, so that R111 lets them write the IPIC. -/
theorem exec_csrReplaceShape {s : State} {i : Instr} {f : CsrShape} (h : csrReplaceShape s i = some f) :
    ∃ v inst, exec i s = s.csrOp f.rd f.addr (.replace v) inst ∧ ∀ old, f.new old = v := by
  cases i <;> simp only [csrReplaceShape, reduceCtorEq, Option.some.injEq] at h <;> subst h <;>
    exact ⟨_, _, rfl, fun _ => rfl⟩

/-- A write to a register that is not the IPIC's answers next. -/
theorem next_of_csrWriteShape {s t : State} {i : Instr} {f : CsrShape} {c : Csr} (h : csrWriteShape s i = some f)
    (hc : csrAt s.cfg f.addr = some c) (hr : csrReadOnly f.addr = false) (hi : c.isIpic = false)
    (ht : s.writeCsr c (f.new (s.readCsr c)) = .ok t) : exec i s = .next (s.csrEnd t f.rd c true) := by
  obtain ⟨w, inst, he, hv⟩ := exec_csrWriteShape h
  rw [he]
  exact State.csrOp_writes hc hr (by simp [hi]) (hv _) ht

/-- A write that is refused, on a register that is not the IPIC's. -/
theorem refused_of_csrWriteShape {s : State} {i : Instr} {f : CsrShape} {c : Csr} {e : Refusal}
    (h : csrWriteShape s i = some f) (hc : csrAt s.cfg f.addr = some c) (hr : csrReadOnly f.addr = false)
    (hi : c.isIpic = false) (ht : s.writeCsr c (f.new (s.readCsr c)) = .error e) : exec i s = .refused e := by
  obtain ⟨w, inst, he, hv⟩ := exec_csrWriteShape h
  rw [he]
  exact State.csrOp_refused hc hr (by simp [hi]) (hv _) ht

/-- CSRRW and CSRRWI on any register that can be written, the IPIC's among them. -/
theorem next_of_csrReplaceShape {s t : State} {i : Instr} {f : CsrShape} {c : Csr} (h : csrReplaceShape s i = some f)
    (hc : csrAt s.cfg f.addr = some c) (hr : csrReadOnly f.addr = false)
    (ht : s.writeCsr c (f.new 0#32) = .ok t) : exec i s = .next (s.csrEnd t f.rd c true) := by
  obtain ⟨v, inst, he, hv⟩ := exec_csrReplaceShape h
  rw [he]
  exact State.csrOp_writes hc hr rfl rfl (by rw [← hv 0#32]; exact ht)

/-! ### What it leaves -/

/-- The registers, the pc and the memories after a CSR instruction. -/
theorem CsrDone.of_csrEnd {s t : State} {rd : Reg} {c : Csr} {w : Bool} (hr : t.regs = s.regs) (h1 : t.tcm = s.tcm)
    (h2 : t.ext = s.ext) (h3 : t.extI = s.extI) : CsrDone s (s.csrEnd t rd c w) rd (s.readCsr c) :=
  ⟨RegResult.of_setReg (by simp [State.csrEnd, hr]), rfl, SameMemory.of_eq h1 h2 h3⟩

/-- A CSR instruction that does not write minstret is counted. -/
theorem Counted.of_csrEnd {s t : State} {rd : Reg} {c : Csr} {w : Bool}
    (h : (c == .minstret || c == .minstreth) = false) : Counted s (s.csrEnd t rd c w) :=
  Counted.of_retired (by simp [State.csrEnd, csrInstret, h])

/-- A write that reaches the breakpoint module only. -/
theorem BrkmDone.of_csrEnd {s : State} {m : Brkm} {rd : Reg} {c : Csr} {w : Bool}
    (h : (c == .minstret || c == .minstreth) = false) :
    BrkmDone s (s.csrEnd { s with brkm := m } rd c w) rd (s.readCsr c) :=
  ⟨CsrDone.of_csrEnd rfl rfl rfl rfl, Counted.of_csrEnd h, rfl⟩

/-- A write that reaches the IPIC only. -/
theorem IpicDone.of_csrEnd {s : State} {x : Ipic} {rd : Reg} {c : Csr} {w : Bool}
    (h : (c == .minstret || c == .minstreth) = false) :
    IpicDone s (s.csrEnd { s with ipic := x } rd c w) rd (s.readCsr c) :=
  ⟨CsrDone.of_csrEnd rfl rfl rfl rfl, Counted.of_csrEnd h, rfl⟩

/-! ### Registers assembled from fields -/

/-- A field placed below what is there adds its value. -/
theorem toNat_or_put {w n k : Nat} {x : BitVec w} {v : BitVec n} (hx : 2 ^ (k + n) ∣ x.toNat) (hw : k + n ≤ w) :
    (x ||| put k v).toNat = x.toNat + 2 ^ k * v.toNat ∧ 2 ^ k ∣ (x ||| put k v).toNat := by
  have hv : v.toNat * 2 ^ k < 2 ^ (k + n) := by
    rw [Nat.pow_add, Nat.mul_comm]
    exact Nat.mul_lt_mul_of_pos_left v.isLt (Nat.two_pow_pos k)
  have hp : (put k v : BitVec w).toNat = 2 ^ k * v.toNat := by
    have h1 : v.toNat < 2 ^ w := lt_of_lt_of_le v.isLt (Nat.pow_le_pow_right (by omega) (by omega))
    have h2 : v.toNat * 2 ^ k < 2 ^ w := lt_of_lt_of_le hv (Nat.pow_le_pow_right (by omega) hw)
    simp [put, Nat.shiftLeft_eq, Nat.mod_eq_of_lt h1, Nat.mod_eq_of_lt h2, Nat.mul_comm]
  obtain ⟨q, hq⟩ := hx
  have he : (x ||| put k v).toNat = x.toNat + 2 ^ k * v.toNat := by
    rw [BitVec.toNat_or, hp, hq, ← Nat.two_pow_add_eq_or_of_lt (by rw [Nat.mul_comm]; exact hv)]
  exact ⟨he, he ▸ Nat.dvd_add (hq ▸ Nat.dvd_mul_right_of_dvd (Nat.pow_dvd_pow 2 (by omega)) q) (Nat.dvd_mul_right _ _)⟩

@[simp] theorem bit_toNat (b : Bool) : (bit b).toNat = b.toNat := by cases b <;> rfl

end Sys2Proof.Machine
end

