-- ==== Sys2Proof/Laws/Encoding.lean ====
section
/-! SUPPORT. What each field of an encoded word reads: the decoder's fields of the encoder's words. -/

namespace Sys2Proof

@[simp] theorem opcodeOf_rWord (f7 : BitVec 7) (rs2 rs1 : Reg) (f3 : BitVec 3) (rd : Reg) (op : BitVec 7) :
    opcodeOf (rWord f7 rs2 rs1 f3 rd op) = op := by
  apply BitVec.eq_of_getLsbD_eq
  intro i hi
  interval_cases i <;> simp [opcodeOf, rWord, put]

@[simp] theorem rdOf_rWord (f7 : BitVec 7) (rs2 rs1 : Reg) (f3 : BitVec 3) (rd : Reg) (op : BitVec 7) :
    rdOf (rWord f7 rs2 rs1 f3 rd op) = rd := by
  apply BitVec.eq_of_getLsbD_eq
  intro i hi
  interval_cases i <;> simp [rdOf, rWord, put]

@[simp] theorem funct3Of_rWord (f7 : BitVec 7) (rs2 rs1 : Reg) (f3 : BitVec 3) (rd : Reg) (op : BitVec 7) :
    funct3Of (rWord f7 rs2 rs1 f3 rd op) = f3 := by
  apply BitVec.eq_of_getLsbD_eq
  intro i hi
  interval_cases i <;> simp [funct3Of, rWord, put]

@[simp] theorem rs1Of_rWord (f7 : BitVec 7) (rs2 rs1 : Reg) (f3 : BitVec 3) (rd : Reg) (op : BitVec 7) :
    rs1Of (rWord f7 rs2 rs1 f3 rd op) = rs1 := by
  apply BitVec.eq_of_getLsbD_eq
  intro i hi
  interval_cases i <;> simp [rs1Of, rWord, put]

@[simp] theorem rs2Of_rWord (f7 : BitVec 7) (rs2 rs1 : Reg) (f3 : BitVec 3) (rd : Reg) (op : BitVec 7) :
    rs2Of (rWord f7 rs2 rs1 f3 rd op) = rs2 := by
  apply BitVec.eq_of_getLsbD_eq
  intro i hi
  interval_cases i <;> simp [rs2Of, rWord, put]

@[simp] theorem funct7Of_rWord (f7 : BitVec 7) (rs2 rs1 : Reg) (f3 : BitVec 3) (rd : Reg) (op : BitVec 7) :
    funct7Of (rWord f7 rs2 rs1 f3 rd op) = f7 := by
  apply BitVec.eq_of_getLsbD_eq
  intro i hi
  interval_cases i <;> simp [funct7Of, rWord, put]

@[simp] theorem opcodeOf_iWord (imm : BitVec 12) (rs1 : Reg) (f3 : BitVec 3) (rd : Reg) (op : BitVec 7) :
    opcodeOf (iWord imm rs1 f3 rd op) = op := by
  apply BitVec.eq_of_getLsbD_eq
  intro i hi
  interval_cases i <;> simp [opcodeOf, iWord, put]

@[simp] theorem rdOf_iWord (imm : BitVec 12) (rs1 : Reg) (f3 : BitVec 3) (rd : Reg) (op : BitVec 7) :
    rdOf (iWord imm rs1 f3 rd op) = rd := by
  apply BitVec.eq_of_getLsbD_eq
  intro i hi
  interval_cases i <;> simp [rdOf, iWord, put]

@[simp] theorem funct3Of_iWord (imm : BitVec 12) (rs1 : Reg) (f3 : BitVec 3) (rd : Reg) (op : BitVec 7) :
    funct3Of (iWord imm rs1 f3 rd op) = f3 := by
  apply BitVec.eq_of_getLsbD_eq
  intro i hi
  interval_cases i <;> simp [funct3Of, iWord, put]

@[simp] theorem rs1Of_iWord (imm : BitVec 12) (rs1 : Reg) (f3 : BitVec 3) (rd : Reg) (op : BitVec 7) :
    rs1Of (iWord imm rs1 f3 rd op) = rs1 := by
  apply BitVec.eq_of_getLsbD_eq
  intro i hi
  interval_cases i <;> simp [rs1Of, iWord, put]

@[simp] theorem immIOf_iWord (imm : BitVec 12) (rs1 : Reg) (f3 : BitVec 3) (rd : Reg) (op : BitVec 7) :
    immIOf (iWord imm rs1 f3 rd op) = imm := by
  apply BitVec.eq_of_getLsbD_eq
  intro i hi
  interval_cases i <;> simp [immIOf, iWord, put]

@[simp] theorem opcodeOf_sWord (imm : BitVec 12) (rs2 rs1 : Reg) (f3 : BitVec 3) :
    opcodeOf (sWord imm rs2 rs1 f3) = 0b0100011#7 := by
  apply BitVec.eq_of_getLsbD_eq
  intro i hi
  interval_cases i <;> simp [opcodeOf, sWord, put]

@[simp] theorem funct3Of_sWord (imm : BitVec 12) (rs2 rs1 : Reg) (f3 : BitVec 3) :
    funct3Of (sWord imm rs2 rs1 f3) = f3 := by
  apply BitVec.eq_of_getLsbD_eq
  intro i hi
  interval_cases i <;> simp [funct3Of, sWord, put]

@[simp] theorem rs1Of_sWord (imm : BitVec 12) (rs2 rs1 : Reg) (f3 : BitVec 3) :
    rs1Of (sWord imm rs2 rs1 f3) = rs1 := by
  apply BitVec.eq_of_getLsbD_eq
  intro i hi
  interval_cases i <;> simp [rs1Of, sWord, put]

@[simp] theorem rs2Of_sWord (imm : BitVec 12) (rs2 rs1 : Reg) (f3 : BitVec 3) :
    rs2Of (sWord imm rs2 rs1 f3) = rs2 := by
  apply BitVec.eq_of_getLsbD_eq
  intro i hi
  interval_cases i <;> simp [rs2Of, sWord, put]

@[simp] theorem immSOf_sWord (imm : BitVec 12) (rs2 rs1 : Reg) (f3 : BitVec 3) :
    immSOf (sWord imm rs2 rs1 f3) = imm := by
  apply BitVec.eq_of_getLsbD_eq
  intro i hi
  interval_cases i <;> simp [immSOf, sWord, put]

@[simp] theorem opcodeOf_bWord (imm : BitVec 13) (rs2 rs1 : Reg) (f3 : BitVec 3) :
    opcodeOf (bWord imm rs2 rs1 f3) = 0b1100011#7 := by
  apply BitVec.eq_of_getLsbD_eq
  intro i hi
  interval_cases i <;> simp [opcodeOf, bWord, put]

@[simp] theorem funct3Of_bWord (imm : BitVec 13) (rs2 rs1 : Reg) (f3 : BitVec 3) :
    funct3Of (bWord imm rs2 rs1 f3) = f3 := by
  apply BitVec.eq_of_getLsbD_eq
  intro i hi
  interval_cases i <;> simp [funct3Of, bWord, put]

@[simp] theorem rs1Of_bWord (imm : BitVec 13) (rs2 rs1 : Reg) (f3 : BitVec 3) :
    rs1Of (bWord imm rs2 rs1 f3) = rs1 := by
  apply BitVec.eq_of_getLsbD_eq
  intro i hi
  interval_cases i <;> simp [rs1Of, bWord, put]

@[simp] theorem rs2Of_bWord (imm : BitVec 13) (rs2 rs1 : Reg) (f3 : BitVec 3) :
    rs2Of (bWord imm rs2 rs1 f3) = rs2 := by
  apply BitVec.eq_of_getLsbD_eq
  intro i hi
  interval_cases i <;> simp [rs2Of, bWord, put]

@[simp] theorem immBOf_bWord (imm : BitVec 13) (rs2 rs1 : Reg) (f3 : BitVec 3) (h : imm.getLsbD 0 = false) :
    immBOf (bWord imm rs2 rs1 f3) = imm := by
  apply BitVec.eq_of_getLsbD_eq
  intro i hi
  interval_cases i <;> simp_all [immBOf, bWord, put]

@[simp] theorem opcodeOf_uWord (imm : BitVec 20) (rd : Reg) (op : BitVec 7) :
    opcodeOf (uWord imm rd op) = op := by
  apply BitVec.eq_of_getLsbD_eq
  intro i hi
  interval_cases i <;> simp [opcodeOf, uWord, put]

@[simp] theorem rdOf_uWord (imm : BitVec 20) (rd : Reg) (op : BitVec 7) :
    rdOf (uWord imm rd op) = rd := by
  apply BitVec.eq_of_getLsbD_eq
  intro i hi
  interval_cases i <;> simp [rdOf, uWord, put]

@[simp] theorem immUOf_uWord (imm : BitVec 20) (rd : Reg) (op : BitVec 7) :
    immUOf (uWord imm rd op) = imm := by
  apply BitVec.eq_of_getLsbD_eq
  intro i hi
  interval_cases i <;> simp [immUOf, uWord, put]

@[simp] theorem opcodeOf_jWord (imm : BitVec 21) (rd : Reg) :
    opcodeOf (jWord imm rd) = 0b1101111#7 := by
  apply BitVec.eq_of_getLsbD_eq
  intro i hi
  interval_cases i <;> simp [opcodeOf, jWord, put]

@[simp] theorem rdOf_jWord (imm : BitVec 21) (rd : Reg) :
    rdOf (jWord imm rd) = rd := by
  apply BitVec.eq_of_getLsbD_eq
  intro i hi
  interval_cases i <;> simp [rdOf, jWord, put]

@[simp] theorem immJOf_jWord (imm : BitVec 21) (rd : Reg) (h : imm.getLsbD 0 = false) :
    immJOf (jWord imm rd) = imm := by
  apply BitVec.eq_of_getLsbD_eq
  intro i hi
  interval_cases i <;> simp_all [immJOf, jWord, put]

@[simp] theorem quadrantOf_ciHalf (f3 : BitVec 3) (imm : BitVec 6) (rd : Reg) (q : BitVec 2) :
    quadrantOf (ciHalf f3 imm rd q) = q := by
  apply BitVec.eq_of_getLsbD_eq
  intro i hi
  interval_cases i <;> simp [quadrantOf, ciHalf, put]

@[simp] theorem cFunct3Of_ciHalf (f3 : BitVec 3) (imm : BitVec 6) (rd : Reg) (q : BitVec 2) :
    cFunct3Of (ciHalf f3 imm rd q) = f3 := by
  apply BitVec.eq_of_getLsbD_eq
  intro i hi
  interval_cases i <;> simp [cFunct3Of, ciHalf, put]

@[simp] theorem cRdOf_ciHalf (f3 : BitVec 3) (imm : BitVec 6) (rd : Reg) (q : BitVec 2) :
    cRdOf (ciHalf f3 imm rd q) = rd := by
  apply BitVec.eq_of_getLsbD_eq
  intro i hi
  interval_cases i <;> simp [cRdOf, ciHalf, put]

@[simp] theorem immCIOf_ciHalf (f3 : BitVec 3) (imm : BitVec 6) (rd : Reg) (q : BitVec 2) :
    immCIOf (ciHalf f3 imm rd q) = imm := by
  apply BitVec.eq_of_getLsbD_eq
  intro i hi
  interval_cases i <;> simp [immCIOf, ciHalf, put]

@[simp] theorem cBit12Of_ciHalf (f3 : BitVec 3) (imm : BitVec 6) (rd : Reg) (q : BitVec 2) :
    cBit12Of (ciHalf f3 imm rd q) = imm.extractLsb' 5 1 := by
  apply BitVec.eq_of_getLsbD_eq
  intro i hi
  interval_cases i <;> simp [cBit12Of, ciHalf, put]

@[simp] theorem cRs2Of_ciHalf (f3 : BitVec 3) (imm : BitVec 6) (rd : Reg) (q : BitVec 2) :
    cRs2Of (ciHalf f3 imm rd q) = imm.extractLsb' 0 5 := by
  apply BitVec.eq_of_getLsbD_eq
  intro i hi
  interval_cases i <;> simp [cRs2Of, ciHalf, put]

@[simp] theorem quadrantOf_crHalf (f3 : BitVec 3) (f1 : BitVec 1) (rd rs2 : Reg) :
    quadrantOf (crHalf f3 f1 rd rs2) = 2#2 := by
  apply BitVec.eq_of_getLsbD_eq
  intro i hi
  interval_cases i <;> simp [quadrantOf, crHalf, put]

@[simp] theorem cFunct3Of_crHalf (f3 : BitVec 3) (f1 : BitVec 1) (rd rs2 : Reg) :
    cFunct3Of (crHalf f3 f1 rd rs2) = f3 := by
  apply BitVec.eq_of_getLsbD_eq
  intro i hi
  interval_cases i <;> simp [cFunct3Of, crHalf, put]

@[simp] theorem cRdOf_crHalf (f3 : BitVec 3) (f1 : BitVec 1) (rd rs2 : Reg) :
    cRdOf (crHalf f3 f1 rd rs2) = rd := by
  apply BitVec.eq_of_getLsbD_eq
  intro i hi
  interval_cases i <;> simp [cRdOf, crHalf, put]

@[simp] theorem cRs2Of_crHalf (f3 : BitVec 3) (f1 : BitVec 1) (rd rs2 : Reg) :
    cRs2Of (crHalf f3 f1 rd rs2) = rs2 := by
  apply BitVec.eq_of_getLsbD_eq
  intro i hi
  interval_cases i <;> simp [cRs2Of, crHalf, put]

@[simp] theorem cBit12Of_crHalf (f3 : BitVec 3) (f1 : BitVec 1) (rd rs2 : Reg) :
    cBit12Of (crHalf f3 f1 rd rs2) = f1 := by
  apply BitVec.eq_of_getLsbD_eq
  intro i hi
  interval_cases i <;> simp [cBit12Of, crHalf, put]

@[simp] theorem quadrantOf_cbArithHalf (b12 : BitVec 1) (f2 : BitVec 2) (rd : CReg) (low : BitVec 5) :
    quadrantOf (cbArithHalf b12 f2 rd low) = 1#2 := by
  apply BitVec.eq_of_getLsbD_eq
  intro i hi
  interval_cases i <;> simp [quadrantOf, cbArithHalf, put]

@[simp] theorem cFunct3Of_cbArithHalf (b12 : BitVec 1) (f2 : BitVec 2) (rd : CReg) (low : BitVec 5) :
    cFunct3Of (cbArithHalf b12 f2 rd low) = 4#3 := by
  apply BitVec.eq_of_getLsbD_eq
  intro i hi
  interval_cases i <;> simp [cFunct3Of, cbArithHalf, put]

@[simp] theorem cHighOf_cbArithHalf (b12 : BitVec 1) (f2 : BitVec 2) (rd : CReg) (low : BitVec 5) :
    cHighOf (cbArithHalf b12 f2 rd low) = rd := by
  apply BitVec.eq_of_getLsbD_eq
  intro i hi
  interval_cases i <;> simp [cHighOf, cbArithHalf, put]

@[simp] theorem cRs2Of_cbArithHalf (b12 : BitVec 1) (f2 : BitVec 2) (rd : CReg) (low : BitVec 5) :
    cRs2Of (cbArithHalf b12 f2 rd low) = low := by
  apply BitVec.eq_of_getLsbD_eq
  intro i hi
  interval_cases i <;> simp [cRs2Of, cbArithHalf, put]

@[simp] theorem cBit12Of_cbArithHalf (b12 : BitVec 1) (f2 : BitVec 2) (rd : CReg) (low : BitVec 5) :
    cBit12Of (cbArithHalf b12 f2 rd low) = b12 := by
  apply BitVec.eq_of_getLsbD_eq
  intro i hi
  interval_cases i <;> simp [cBit12Of, cbArithHalf, put]

@[simp] theorem immCIOf_cbArithHalf (b12 : BitVec 1) (f2 : BitVec 2) (rd : CReg) (low : BitVec 5) :
    immCIOf (cbArithHalf b12 f2 rd low) = put 5 b12 ||| put 0 low := by
  apply BitVec.eq_of_getLsbD_eq
  intro i hi
  interval_cases i <;> simp [immCIOf, cbArithHalf, put]

@[simp] theorem quadrantOf_csArithHalf (rd : CReg) (f2 : BitVec 2) (rs2 : CReg) :
    quadrantOf (csArithHalf rd f2 rs2) = 1#2 := by
  apply BitVec.eq_of_getLsbD_eq
  intro i hi
  interval_cases i <;> simp [quadrantOf, csArithHalf, put]

@[simp] theorem cFunct3Of_csArithHalf (rd : CReg) (f2 : BitVec 2) (rs2 : CReg) :
    cFunct3Of (csArithHalf rd f2 rs2) = 4#3 := by
  apply BitVec.eq_of_getLsbD_eq
  intro i hi
  interval_cases i <;> simp [cFunct3Of, csArithHalf, put]

@[simp] theorem cHighOf_csArithHalf (rd : CReg) (f2 : BitVec 2) (rs2 : CReg) :
    cHighOf (csArithHalf rd f2 rs2) = rd := by
  apply BitVec.eq_of_getLsbD_eq
  intro i hi
  interval_cases i <;> simp [cHighOf, csArithHalf, put]

@[simp] theorem cLowOf_csArithHalf (rd : CReg) (f2 : BitVec 2) (rs2 : CReg) :
    cLowOf (csArithHalf rd f2 rs2) = rs2 := by
  apply BitVec.eq_of_getLsbD_eq
  intro i hi
  interval_cases i <;> simp [cLowOf, csArithHalf, put]

@[simp] theorem cBit12Of_csArithHalf (rd : CReg) (f2 : BitVec 2) (rs2 : CReg) :
    cBit12Of (csArithHalf rd f2 rs2) = 0#1 := by
  apply BitVec.eq_of_getLsbD_eq
  intro i hi
  interval_cases i <;> simp [cBit12Of, csArithHalf, put]

@[simp] theorem quadrantOf_clHalf (f3 : BitVec 3) (imm : BitVec 7) (high low : CReg) :
    quadrantOf (clHalf f3 imm high low) = 0#2 := by
  apply BitVec.eq_of_getLsbD_eq
  intro i hi
  interval_cases i <;> simp [quadrantOf, clHalf, put]

@[simp] theorem cFunct3Of_clHalf (f3 : BitVec 3) (imm : BitVec 7) (high low : CReg) :
    cFunct3Of (clHalf f3 imm high low) = f3 := by
  apply BitVec.eq_of_getLsbD_eq
  intro i hi
  interval_cases i <;> simp [cFunct3Of, clHalf, put]

@[simp] theorem cHighOf_clHalf (f3 : BitVec 3) (imm : BitVec 7) (high low : CReg) :
    cHighOf (clHalf f3 imm high low) = high := by
  apply BitVec.eq_of_getLsbD_eq
  intro i hi
  interval_cases i <;> simp [cHighOf, clHalf, put]

@[simp] theorem cLowOf_clHalf (f3 : BitVec 3) (imm : BitVec 7) (high low : CReg) :
    cLowOf (clHalf f3 imm high low) = low := by
  apply BitVec.eq_of_getLsbD_eq
  intro i hi
  interval_cases i <;> simp [cLowOf, clHalf, put]

@[simp] theorem immClOf_clHalf (f3 : BitVec 3) (imm : BitVec 7) (high low : CReg) (h : imm.extractLsb' 0 2 = 0#2) :
    immClOf (clHalf f3 imm high low) = imm := by
  have h0 : imm.getLsbD 0 = false := by
    simpa using congrArg (fun x => x.getLsbD 0) h
  have h1 : imm.getLsbD 1 = false := by
    simpa using congrArg (fun x => x.getLsbD 1) h
  apply BitVec.eq_of_getLsbD_eq
  intro i hi
  interval_cases i <;> simp_all [immClOf, clHalf, put]

@[simp] theorem quadrantOf_ciwHalf (imm : BitVec 10) (rd : CReg) :
    quadrantOf (ciwHalf imm rd) = 0#2 := by
  apply BitVec.eq_of_getLsbD_eq
  intro i hi
  interval_cases i <;> simp [quadrantOf, ciwHalf, put]

@[simp] theorem cFunct3Of_ciwHalf (imm : BitVec 10) (rd : CReg) :
    cFunct3Of (ciwHalf imm rd) = 0#3 := by
  apply BitVec.eq_of_getLsbD_eq
  intro i hi
  interval_cases i <;> simp [cFunct3Of, ciwHalf, put]

@[simp] theorem cLowOf_ciwHalf (imm : BitVec 10) (rd : CReg) :
    cLowOf (ciwHalf imm rd) = rd := by
  apply BitVec.eq_of_getLsbD_eq
  intro i hi
  interval_cases i <;> simp [cLowOf, ciwHalf, put]

@[simp] theorem immCiwOf_ciwHalf (imm : BitVec 10) (rd : CReg) (h : imm.extractLsb' 0 2 = 0#2) :
    immCiwOf (ciwHalf imm rd) = imm := by
  have h0 : imm.getLsbD 0 = false := by
    simpa using congrArg (fun x => x.getLsbD 0) h
  have h1 : imm.getLsbD 1 = false := by
    simpa using congrArg (fun x => x.getLsbD 1) h
  apply BitVec.eq_of_getLsbD_eq
  intro i hi
  interval_cases i <;> simp_all [immCiwOf, ciwHalf, put]

@[simp] theorem quadrantOf_cjHalf (f3 : BitVec 3) (imm : BitVec 12) :
    quadrantOf (cjHalf f3 imm) = 1#2 := by
  apply BitVec.eq_of_getLsbD_eq
  intro i hi
  interval_cases i <;> simp [quadrantOf, cjHalf, put]

@[simp] theorem cFunct3Of_cjHalf (f3 : BitVec 3) (imm : BitVec 12) :
    cFunct3Of (cjHalf f3 imm) = f3 := by
  apply BitVec.eq_of_getLsbD_eq
  intro i hi
  interval_cases i <;> simp [cFunct3Of, cjHalf, put]

@[simp] theorem immCjOf_cjHalf (f3 : BitVec 3) (imm : BitVec 12) (h : imm.getLsbD 0 = false) :
    immCjOf (cjHalf f3 imm) = imm := by
  apply BitVec.eq_of_getLsbD_eq
  intro i hi
  interval_cases i <;> simp_all [immCjOf, cjHalf, put]

@[simp] theorem quadrantOf_cbHalf (f3 : BitVec 3) (imm : BitVec 9) (rs1 : CReg) :
    quadrantOf (cbHalf f3 imm rs1) = 1#2 := by
  apply BitVec.eq_of_getLsbD_eq
  intro i hi
  interval_cases i <;> simp [quadrantOf, cbHalf, put]

@[simp] theorem cFunct3Of_cbHalf (f3 : BitVec 3) (imm : BitVec 9) (rs1 : CReg) :
    cFunct3Of (cbHalf f3 imm rs1) = f3 := by
  apply BitVec.eq_of_getLsbD_eq
  intro i hi
  interval_cases i <;> simp [cFunct3Of, cbHalf, put]

@[simp] theorem cHighOf_cbHalf (f3 : BitVec 3) (imm : BitVec 9) (rs1 : CReg) :
    cHighOf (cbHalf f3 imm rs1) = rs1 := by
  apply BitVec.eq_of_getLsbD_eq
  intro i hi
  interval_cases i <;> simp [cHighOf, cbHalf, put]

@[simp] theorem immCbOf_cbHalf (f3 : BitVec 3) (imm : BitVec 9) (rs1 : CReg) (h : imm.getLsbD 0 = false) :
    immCbOf (cbHalf f3 imm rs1) = imm := by
  apply BitVec.eq_of_getLsbD_eq
  intro i hi
  interval_cases i <;> simp_all [immCbOf, cbHalf, put]

@[simp] theorem quadrantOf_c16spHalf (imm : BitVec 10) :
    quadrantOf (c16spHalf imm) = 1#2 := by
  apply BitVec.eq_of_getLsbD_eq
  intro i hi
  interval_cases i <;> simp [quadrantOf, c16spHalf, put]

@[simp] theorem cFunct3Of_c16spHalf (imm : BitVec 10) :
    cFunct3Of (c16spHalf imm) = 3#3 := by
  apply BitVec.eq_of_getLsbD_eq
  intro i hi
  interval_cases i <;> simp [cFunct3Of, c16spHalf, put]

@[simp] theorem cRdOf_c16spHalf (imm : BitVec 10) :
    cRdOf (c16spHalf imm) = 2#5 := by
  apply BitVec.eq_of_getLsbD_eq
  intro i hi
  interval_cases i <;> simp [cRdOf, c16spHalf, put]

@[simp] theorem immC16spOf_c16spHalf (imm : BitVec 10) (h : imm.extractLsb' 0 4 = 0#4) :
    immC16spOf (c16spHalf imm) = imm := by
  have h0 : imm.getLsbD 0 = false := by
    simpa using congrArg (fun x => x.getLsbD 0) h
  have h1 : imm.getLsbD 1 = false := by
    simpa using congrArg (fun x => x.getLsbD 1) h
  have h2 : imm.getLsbD 2 = false := by
    simpa using congrArg (fun x => x.getLsbD 2) h
  have h3 : imm.getLsbD 3 = false := by
    simpa using congrArg (fun x => x.getLsbD 3) h
  apply BitVec.eq_of_getLsbD_eq
  intro i hi
  interval_cases i <;> simp_all [immC16spOf, c16spHalf, put]

@[simp] theorem quadrantOf_clwspHalf (imm : BitVec 8) (rd : Reg) :
    quadrantOf (clwspHalf imm rd) = 2#2 := by
  apply BitVec.eq_of_getLsbD_eq
  intro i hi
  interval_cases i <;> simp [quadrantOf, clwspHalf, put]

@[simp] theorem cFunct3Of_clwspHalf (imm : BitVec 8) (rd : Reg) :
    cFunct3Of (clwspHalf imm rd) = 2#3 := by
  apply BitVec.eq_of_getLsbD_eq
  intro i hi
  interval_cases i <;> simp [cFunct3Of, clwspHalf, put]

@[simp] theorem cRdOf_clwspHalf (imm : BitVec 8) (rd : Reg) :
    cRdOf (clwspHalf imm rd) = rd := by
  apply BitVec.eq_of_getLsbD_eq
  intro i hi
  interval_cases i <;> simp [cRdOf, clwspHalf, put]

@[simp] theorem immClwspOf_clwspHalf (imm : BitVec 8) (rd : Reg) (h : imm.extractLsb' 0 2 = 0#2) :
    immClwspOf (clwspHalf imm rd) = imm := by
  have h0 : imm.getLsbD 0 = false := by
    simpa using congrArg (fun x => x.getLsbD 0) h
  have h1 : imm.getLsbD 1 = false := by
    simpa using congrArg (fun x => x.getLsbD 1) h
  apply BitVec.eq_of_getLsbD_eq
  intro i hi
  interval_cases i <;> simp_all [immClwspOf, clwspHalf, put]

@[simp] theorem quadrantOf_cswspHalf (imm : BitVec 8) (rs2 : Reg) :
    quadrantOf (cswspHalf imm rs2) = 2#2 := by
  apply BitVec.eq_of_getLsbD_eq
  intro i hi
  interval_cases i <;> simp [quadrantOf, cswspHalf, put]

@[simp] theorem cFunct3Of_cswspHalf (imm : BitVec 8) (rs2 : Reg) :
    cFunct3Of (cswspHalf imm rs2) = 6#3 := by
  apply BitVec.eq_of_getLsbD_eq
  intro i hi
  interval_cases i <;> simp [cFunct3Of, cswspHalf, put]

@[simp] theorem cRs2Of_cswspHalf (imm : BitVec 8) (rs2 : Reg) :
    cRs2Of (cswspHalf imm rs2) = rs2 := by
  apply BitVec.eq_of_getLsbD_eq
  intro i hi
  interval_cases i <;> simp [cRs2Of, cswspHalf, put]

@[simp] theorem immCswspOf_cswspHalf (imm : BitVec 8) (rs2 : Reg) (h : imm.extractLsb' 0 2 = 0#2) :
    immCswspOf (cswspHalf imm rs2) = imm := by
  have h0 : imm.getLsbD 0 = false := by
    simpa using congrArg (fun x => x.getLsbD 0) h
  have h1 : imm.getLsbD 1 = false := by
    simpa using congrArg (fun x => x.getLsbD 1) h
  apply BitVec.eq_of_getLsbD_eq
  intro i hi
  interval_cases i <;> simp_all [immCswspOf, cswspHalf, put]

@[simp] theorem group_cbArithHalf (b12 : BitVec 1) (f2 : BitVec 2) (rd : CReg) (low : BitVec 5) :
    (cbArithHalf b12 f2 rd low).extractLsb' 10 2 = f2 := by
  apply BitVec.eq_of_getLsbD_eq
  intro i hi
  interval_cases i <;> simp [cbArithHalf, put]

@[simp] theorem group_csArithHalf (rd : CReg) (f2 : BitVec 2) (rs2 : CReg) :
    (csArithHalf rd f2 rs2).extractLsb' 10 2 = 3#2 := by
  apply BitVec.eq_of_getLsbD_eq
  intro i hi
  interval_cases i <;> simp [csArithHalf, put]

@[simp] theorem function_csArithHalf (rd : CReg) (f2 : BitVec 2) (rs2 : CReg) :
    (csArithHalf rd f2 rs2).extractLsb' 5 2 = f2 := by
  apply BitVec.eq_of_getLsbD_eq
  intro i hi
  interval_cases i <;> simp [csArithHalf, put]

@[simp] theorem put_split_six (imm : BitVec 6) :
    (put 5 (imm.extractLsb' 5 1) ||| put 0 (imm.extractLsb' 0 5) : BitVec 6) = imm := by
  apply BitVec.eq_of_getLsbD_eq
  intro i hi
  interval_cases i <;> simp [put]

@[simp] theorem put_shamt_high (shamt : BitVec 5) :
    (put 0 shamt : BitVec 6).extractLsb' 5 1 = 0#1 := by
  apply BitVec.eq_of_getLsbD_eq
  intro i hi
  interval_cases i <;> simp [put]

@[simp] theorem put_shamt_low (shamt : BitVec 5) :
    (put 0 shamt : BitVec 6).extractLsb' 0 5 = shamt := by
  apply BitVec.eq_of_getLsbD_eq
  intro i hi
  interval_cases i <;> simp [put]

@[simp] theorem fence_fm_iWord (pred succ : BitVec 4) (rs1 : Reg) (f3 : BitVec 3) (rd : Reg) (op : BitVec 7) :
    (iWord (put 4 pred ||| put 0 succ) rs1 f3 rd op).extractLsb' 28 4 = 0#4 := by
  apply BitVec.eq_of_getLsbD_eq
  intro i hi
  interval_cases i <;> simp [iWord, put]

@[simp] theorem fence_pred_iWord (pred succ : BitVec 4) (rs1 : Reg) (f3 : BitVec 3) (rd : Reg) (op : BitVec 7) :
    (iWord (put 4 pred ||| put 0 succ) rs1 f3 rd op).extractLsb' 24 4 = pred := by
  apply BitVec.eq_of_getLsbD_eq
  intro i hi
  interval_cases i <;> simp [iWord, put]

@[simp] theorem fence_succ_iWord (pred succ : BitVec 4) (rs1 : Reg) (f3 : BitVec 3) (rd : Reg) (op : BitVec 7) :
    (iWord (put 4 pred ||| put 0 succ) rs1 f3 rd op).extractLsb' 20 4 = succ := by
  apply BitVec.eq_of_getLsbD_eq
  intro i hi
  interval_cases i <;> simp [iWord, put]

/-- C.ADDI16SP's bits as a CI immediate are zero only for the zero immediate. -/
theorem immCIOf_c16spHalf_ne_zero (imm : BitVec 10) (h : imm.extractLsb' 0 4 = 0#4) (hz : imm ≠ 0#10) :
    immCIOf (c16spHalf imm) ≠ 0#6 := by
  intro hc
  apply hz
  have b : ∀ k, (immCIOf (c16spHalf imm)).getLsbD k = false := by simp [hc]
  have l : ∀ k, (imm.extractLsb' 0 4).getLsbD k = false := by simp [h]
  have l0 := l 0
  have l1 := l 1
  have l2 := l 2
  have l3 := l 3
  have b0 := b 0
  have b1 := b 1
  have b2 := b 2
  have b3 := b 3
  have b4 := b 4
  have b5 := b 5
  simp [immCIOf, c16spHalf, put] at l0 l1 l2 l3 b0 b1 b2 b3 b4 b5
  apply BitVec.eq_of_getLsbD_eq
  intro i hi
  interval_cases i <;> simp_all

end Sys2Proof
end

