-- ==== Sys2Proof/Tests/Slice0.lean ====
section
/-!
SUPPORT. The tests of this model: ill-formed terms are refused; words printed in the spec decode to their instruction;
one step of each instruction on the spec's own example values; and, for the statements that have hypotheses, states and
operands that meet them (the witnesses). Expected values are those of the examples of spec/40 to spec/60 and
spec/95_test_vectors.md.
-/

namespace Sys2Proof.Tests

open Sys2Proof Sys2Proof.Machine

set_option maxRecDepth 8000

/-! ### Well-formedness: one ill-formed term for each check -/

theorem test_ill_formed_jal : Instr.wf (.jal 1#5 3#21) = false := by decide
theorem test_ill_formed_beq : Instr.wf (.beq 1#5 2#5 1#13) = false := by decide
theorem test_ill_formed_bne : Instr.wf (.bne 1#5 2#5 1#13) = false := by decide
theorem test_ill_formed_blt : Instr.wf (.blt 1#5 2#5 1#13) = false := by decide
theorem test_ill_formed_bge : Instr.wf (.bge 1#5 2#5 1#13) = false := by decide
theorem test_ill_formed_bltu : Instr.wf (.bltu 1#5 2#5 1#13) = false := by decide
theorem test_ill_formed_bgeu : Instr.wf (.bgeu 1#5 2#5 1#13) = false := by decide
theorem test_ill_formed_cAddi4spn_zero : Instr.wf (.cAddi4spn 0#3 0#10) = false := by decide
theorem test_ill_formed_cAddi4spn_scale : Instr.wf (.cAddi4spn 0#3 2#10) = false := by decide
theorem test_ill_formed_cLw : Instr.wf (.cLw 0#3 0#3 1#7) = false := by decide
theorem test_ill_formed_cSw : Instr.wf (.cSw 0#3 0#3 2#7) = false := by decide
theorem test_ill_formed_cAddi : Instr.wf (.cAddi 0#5 1#6) = false := by decide
theorem test_ill_formed_cJal : Instr.wf (.cJal 1#12) = false := by decide
theorem test_ill_formed_cAddi16sp_zero : Instr.wf (.cAddi16sp 0#10) = false := by decide
theorem test_ill_formed_cAddi16sp_scale : Instr.wf (.cAddi16sp 8#10) = false := by decide
theorem test_ill_formed_cLui_rd : Instr.wf (.cLui 2#5 1#6) = false := by decide
theorem test_ill_formed_cLui_zero : Instr.wf (.cLui 5#5 0#6) = false := by decide
theorem test_ill_formed_cJ : Instr.wf (.cJ 1#12) = false := by decide
theorem test_ill_formed_cBeqz : Instr.wf (.cBeqz 0#3 1#9) = false := by decide
theorem test_ill_formed_cBnez : Instr.wf (.cBnez 0#3 1#9) = false := by decide
theorem test_ill_formed_cLwsp_rd : Instr.wf (.cLwsp 0#5 4#8) = false := by decide
theorem test_ill_formed_cLwsp_scale : Instr.wf (.cLwsp 1#5 2#8) = false := by decide
theorem test_ill_formed_cJr : Instr.wf (.cJr 0#5) = false := by decide
theorem test_ill_formed_cMv : Instr.wf (.cMv 1#5 0#5) = false := by decide
theorem test_ill_formed_cJalr : Instr.wf (.cJalr 0#5) = false := by decide
theorem test_ill_formed_cAdd : Instr.wf (.cAdd 1#5 0#5) = false := by decide
theorem test_ill_formed_cSwsp : Instr.wf (.cSwsp 1#5 1#8) = false := by decide

/-! ### Decoding: the words of the spec's examples -/

theorem test_decode_lui : decodeParcel (.c32 0x123452B7#32) = .ok (.lui 5#5 0x12345#20) := by decide
theorem test_decode_auipc : decodeParcel (.c32 0x00001297#32) = .ok (.auipc 5#5 1#20) := by decide
theorem test_decode_addi : decodeParcel (.c32 0xFFF00293#32) = .ok (.addi 5#5 0#5 0xFFF#12) := by decide
theorem test_decode_slti : decodeParcel (.c32 0xFFF32293#32) = .ok (.slti 5#5 6#5 0xFFF#12) := by decide
theorem test_decode_sltiu : decodeParcel (.c32 0xFFF33293#32) = .ok (.sltiu 5#5 6#5 0xFFF#12) := by decide
theorem test_decode_xori : decodeParcel (.c32 0xFFF34293#32) = .ok (.xori 5#5 6#5 0xFFF#12) := by decide
theorem test_decode_ori : decodeParcel (.c32 0x0F036293#32) = .ok (.ori 5#5 6#5 0x0F0#12) := by decide
theorem test_decode_andi : decodeParcel (.c32 0x7FF37293#32) = .ok (.andi 5#5 6#5 0x7FF#12) := by decide
theorem test_decode_slli : decodeParcel (.c32 0x00431293#32) = .ok (.slli 5#5 6#5 4#5) := by decide
theorem test_decode_srli : decodeParcel (.c32 0x00435293#32) = .ok (.srli 5#5 6#5 4#5) := by decide
theorem test_decode_srai : decodeParcel (.c32 0x40435293#32) = .ok (.srai 5#5 6#5 4#5) := by decide
theorem test_decode_add : decodeParcel (.c32 0x007302B3#32) = .ok (.add 5#5 6#5 7#5) := by decide
theorem test_decode_sub : decodeParcel (.c32 0x407302B3#32) = .ok (.sub 5#5 6#5 7#5) := by decide
theorem test_decode_sll : decodeParcel (.c32 0x007312B3#32) = .ok (.sll 5#5 6#5 7#5) := by decide
theorem test_decode_slt : decodeParcel (.c32 0x007322B3#32) = .ok (.slt 5#5 6#5 7#5) := by decide
theorem test_decode_sltu : decodeParcel (.c32 0x007332B3#32) = .ok (.sltu 5#5 6#5 7#5) := by decide
theorem test_decode_xor : decodeParcel (.c32 0x007342B3#32) = .ok (.xor 5#5 6#5 7#5) := by decide
theorem test_decode_srl : decodeParcel (.c32 0x007352B3#32) = .ok (.srl 5#5 6#5 7#5) := by decide
theorem test_decode_sra : decodeParcel (.c32 0x407352B3#32) = .ok (.sra 5#5 6#5 7#5) := by decide
theorem test_decode_or : decodeParcel (.c32 0x007362B3#32) = .ok (.or 5#5 6#5 7#5) := by decide
theorem test_decode_and : decodeParcel (.c32 0x007372B3#32) = .ok (.and 5#5 6#5 7#5) := by decide
theorem test_decode_jal : decodeParcel (.c32 0x008000EF#32) = .ok (.jal 1#5 8#21) := by decide
theorem test_decode_jalr : decodeParcel (.c32 0x004300E7#32) = .ok (.jalr 1#5 6#5 4#12) := by decide
theorem test_decode_beq : decodeParcel (.c32 0x00730863#32) = .ok (.beq 6#5 7#5 16#13) := by decide
theorem test_decode_bne : decodeParcel (.c32 0xFE731CE3#32) = .ok (.bne 6#5 7#5 (BitVec.ofInt 13 (-8))) := by decide
theorem test_decode_blt : decodeParcel (.c32 0x00734863#32) = .ok (.blt 6#5 7#5 16#13) := by decide
theorem test_decode_bge : decodeParcel (.c32 0x00735863#32) = .ok (.bge 6#5 7#5 16#13) := by decide
theorem test_decode_bltu : decodeParcel (.c32 0x00736863#32) = .ok (.bltu 6#5 7#5 16#13) := by decide
theorem test_decode_bgeu : decodeParcel (.c32 0x00737863#32) = .ok (.bgeu 6#5 7#5 16#13) := by decide
theorem test_decode_lb : decodeParcel (.c32 0x00830283#32) = .ok (.lb 5#5 6#5 8#12) := by decide
theorem test_decode_lh : decodeParcel (.c32 0x00831283#32) = .ok (.lh 5#5 6#5 8#12) := by decide
theorem test_decode_lw : decodeParcel (.c32 0x00832283#32) = .ok (.lw 5#5 6#5 8#12) := by decide
theorem test_decode_lbu : decodeParcel (.c32 0x00834283#32) = .ok (.lbu 5#5 6#5 8#12) := by decide
theorem test_decode_lhu : decodeParcel (.c32 0x00835283#32) = .ok (.lhu 5#5 6#5 8#12) := by decide
theorem test_decode_sb : decodeParcel (.c32 0x00730423#32) = .ok (.sb 6#5 7#5 8#12) := by decide
theorem test_decode_sh : decodeParcel (.c32 0x00731423#32) = .ok (.sh 6#5 7#5 8#12) := by decide
theorem test_decode_sw : decodeParcel (.c32 0xFE732E23#32) = .ok (.sw 6#5 7#5 0xFFC#12) := by decide
theorem test_decode_fence : decodeParcel (.c32 0x0FF0000F#32) = .ok (.fence 15#4 15#4) := by decide
theorem test_decode_fenceI : decodeParcel (.c32 0x0000100F#32) = .ok (.fenceI) := by decide
theorem test_decode_ecall : decodeParcel (.c32 0x00000073#32) = .ok (.ecall) := by decide
theorem test_decode_ebreak : decodeParcel (.c32 0x00100073#32) = .ok (.ebreak) := by decide
theorem test_decode_mret : decodeParcel (.c32 0x30200073#32) = .ok (.mret) := by decide
theorem test_decode_wfi : decodeParcel (.c32 0x10500073#32) = .ok (.wfi) := by decide
theorem test_decode_csrrw : decodeParcel (.c32 0x340312F3#32) = .ok (.csrrw 5#5 0x340#12 6#5) := by decide
theorem test_decode_csrrs : decodeParcel (.c32 0x300022F3#32) = .ok (.csrrs 5#5 0x300#12 0#5) := by decide
theorem test_decode_csrrc : decodeParcel (.c32 0x304332F3#32) = .ok (.csrrc 5#5 0x304#12 6#5) := by decide
theorem test_decode_csrrwi : decodeParcel (.c32 0x3408D2F3#32) = .ok (.csrrwi 5#5 0x340#12 17#5) := by decide
theorem test_decode_csrrsi : decodeParcel (.c32 0x30046073#32) = .ok (.csrrsi 0#5 0x300#12 8#5) := by decide
theorem test_decode_csrrci : decodeParcel (.c32 0x300472F3#32) = .ok (.csrrci 5#5 0x300#12 8#5) := by decide
theorem test_decode_mul : decodeParcel (.c32 0x027302B3#32) = .ok (.mul 5#5 6#5 7#5) := by decide
theorem test_decode_mulh : decodeParcel (.c32 0x027312B3#32) = .ok (.mulh 5#5 6#5 7#5) := by decide
theorem test_decode_mulhsu : decodeParcel (.c32 0x027322B3#32) = .ok (.mulhsu 5#5 6#5 7#5) := by decide
theorem test_decode_mulhu : decodeParcel (.c32 0x027332B3#32) = .ok (.mulhu 5#5 6#5 7#5) := by decide
theorem test_decode_div : decodeParcel (.c32 0x027342B3#32) = .ok (.div 5#5 6#5 7#5) := by decide
theorem test_decode_divu : decodeParcel (.c32 0x027352B3#32) = .ok (.divu 5#5 6#5 7#5) := by decide
theorem test_decode_rem : decodeParcel (.c32 0x027362B3#32) = .ok (.rem 5#5 6#5 7#5) := by decide
theorem test_decode_remu : decodeParcel (.c32 0x027372B3#32) = .ok (.remu 5#5 6#5 7#5) := by decide
theorem test_decode_cIllegal : decodeParcel (.c16 0x0000#16) = .ok (.cIllegal) := by decide
theorem test_decode_cAddi4spn : decodeParcel (.c16 0x0800#16) = .ok (.cAddi4spn 0#3 16#10) := by decide
theorem test_decode_cLw : decodeParcel (.c16 0x4044#16) = .ok (.cLw 1#3 0#3 4#7) := by decide
theorem test_decode_cSw : decodeParcel (.c16 0xC044#16) = .ok (.cSw 0#3 1#3 4#7) := by decide
theorem test_decode_cNop : decodeParcel (.c16 0x0001#16) = .ok (.cNop) := by decide
theorem test_decode_cAddi : decodeParcel (.c16 0x12FD#16) = .ok (.cAddi 5#5 0x3F#6) := by decide
theorem test_decode_cJal : decodeParcel (.c16 0x2021#16) = .ok (.cJal 8#12) := by decide
theorem test_decode_cLi : decodeParcel (.c16 0x52FD#16) = .ok (.cLi 5#5 0x3F#6) := by decide
theorem test_decode_cAddi16sp : decodeParcel (.c16 0x7139#16) = .ok (.cAddi16sp (BitVec.ofInt 10 (-64))) := by decide
theorem test_decode_cLui : decodeParcel (.c16 0x6285#16) = .ok (.cLui 5#5 1#6) := by decide
theorem test_decode_cSrli : decodeParcel (.c16 0x8011#16) = .ok (.cSrli 0#3 4#5) := by decide
theorem test_decode_cSrai : decodeParcel (.c16 0x8411#16) = .ok (.cSrai 0#3 4#5) := by decide
theorem test_decode_cAndi : decodeParcel (.c16 0x9841#16) = .ok (.cAndi 0#3 (BitVec.ofInt 6 (-16))) := by decide
theorem test_decode_cSub : decodeParcel (.c16 0x8C05#16) = .ok (.cSub 0#3 1#3) := by decide
theorem test_decode_cXor : decodeParcel (.c16 0x8C25#16) = .ok (.cXor 0#3 1#3) := by decide
theorem test_decode_cOr : decodeParcel (.c16 0x8C45#16) = .ok (.cOr 0#3 1#3) := by decide
theorem test_decode_cAnd : decodeParcel (.c16 0x8C65#16) = .ok (.cAnd 0#3 1#3) := by decide
theorem test_decode_cJ : decodeParcel (.c16 0xBFF5#16) = .ok (.cJ (BitVec.ofInt 12 (-4))) := by decide
theorem test_decode_cBeqz : decodeParcel (.c16 0xD001#16) = .ok (.cBeqz 0#3 (BitVec.ofInt 9 (-256))) := by decide
theorem test_decode_cBnez : decodeParcel (.c16 0xFC75#16) = .ok (.cBnez 0#3 (BitVec.ofInt 9 (-4))) := by decide
theorem test_decode_cSlli : decodeParcel (.c16 0x0292#16) = .ok (.cSlli 5#5 4#5) := by decide
theorem test_decode_cLwsp : decodeParcel (.c16 0x42A2#16) = .ok (.cLwsp 5#5 8#8) := by decide
theorem test_decode_cJr : decodeParcel (.c16 0x8082#16) = .ok (.cJr 1#5) := by decide
theorem test_decode_cMv : decodeParcel (.c16 0x829A#16) = .ok (.cMv 5#5 6#5) := by decide
theorem test_decode_cEbreak : decodeParcel (.c16 0x9002#16) = .ok (.cEbreak) := by decide
theorem test_decode_cJalr : decodeParcel (.c16 0x9302#16) = .ok (.cJalr 6#5) := by decide
theorem test_decode_cAdd : decodeParcel (.c16 0x929A#16) = .ok (.cAdd 5#5 6#5) := by decide
theorem test_decode_cSwsp : decodeParcel (.c16 0xC416#16) = .ok (.cSwsp 5#5 8#8) := by decide

/-- R288: the table's numbering of the bits, and the little-endian bytes. -/
theorem test_decodeTableWord : decodeTableWord 32 0x123452B7 = some (.lui 5#5 0x12345#20) ∧
    decodeTableWord 16 0x12FD = some (.cAddi 5#5 0x3F#6) := by decide

/-- R264, R267, R281: words without a row are refused. -/
theorem test_refused_words : decodeParcel (.c32 0xFFFFFFFF#32) = .error .unusedOpcode ∧
    decodeParcel (.c32 0x10200073#32) = .error .unusedSystem ∧ decodeParcel (.c32 0x80431293#32) = .error .unusedFunction ∧
    decodeParcel (.c16 0x8002#16) = .error .reservedCompressed ∧ decodeParcel (.c16 0x2000#16) = .error .unusedCompressed ∧
    decodeParcel (.c16 0x0005#16) = .error .undefinedCNop := by decide

/-! ### One step of each instruction -/

/-- The reset state with these registers, at the pc. -/
def at_ (pc : Word) (regs : List (Reg × Word)) : State :=
  { regs.foldl (fun s p => s.setReg p.1 p.2) State.reset with pc := pc }

/-- The same with the word at 0x1008 that the spec's load and store examples use. -/
def withWord (s : State) : State := { s with ext := Memory.storeLE [] 0x1008 4 0xB3A29180#32 }

/-- exec answers a next state that passes `p`. -/
def after (i : Instr) (s : State) (p : State → Bool) : Bool :=
  match exec i s with
  | .next t => p t
  | .fault _ => false
  | .refused _ => false

/-- One step of the machine answers a next state that passes `p`. -/
def afterStep (s : State) (p : State → Bool) : Bool :=
  match step s with
  | .next t => p t
  | .fault _ => false
  | .refused _ => false

theorem test_lui : after (.lui 5#5 0x12345#20) (at_ 0x200#32 []) (fun t => t.reg 5#5 == 0x12345000#32 && t.pc == 0x204#32) = true := by decide
theorem test_auipc : after (.auipc 5#5 1#20) (at_ 0x200#32 []) (fun t => t.reg 5#5 == 0x00001200#32 && t.pc == 0x204#32) = true := by decide
theorem test_addi : after (.addi 5#5 0#5 0xFFF#12) (at_ 0x200#32 []) (fun t => t.reg 5#5 == 0xFFFFFFFF#32 && t.pc == 0x204#32) = true := by decide
theorem test_slti : after (.slti 5#5 6#5 0xFFF#12) (at_ 0x200#32 [(6#5, 0xFFFFFFFE#32)]) (fun t => t.reg 5#5 == 1#32 && t.pc == 0x204#32) = true := by decide
theorem test_sltiu : after (.sltiu 5#5 6#5 0xFFF#12) (at_ 0x200#32 [(6#5, 5#32)]) (fun t => t.reg 5#5 == 1#32 && t.pc == 0x204#32) = true := by decide
theorem test_xori : after (.xori 5#5 6#5 0xFFF#12) (at_ 0x200#32 [(6#5, 0x0F0F0F0F#32)]) (fun t => t.reg 5#5 == 0xF0F0F0F0#32 && t.pc == 0x204#32) = true := by decide
theorem test_ori : after (.ori 5#5 6#5 0x0F0#12) (at_ 0x200#32 [(6#5, 0x00000100#32)]) (fun t => t.reg 5#5 == 0x000001F0#32 && t.pc == 0x204#32) = true := by decide
theorem test_andi : after (.andi 5#5 6#5 0x7FF#12) (at_ 0x200#32 [(6#5, 0xFFFFFFFF#32)]) (fun t => t.reg 5#5 == 0x000007FF#32 && t.pc == 0x204#32) = true := by decide
theorem test_slli : after (.slli 5#5 6#5 4#5) (at_ 0x200#32 [(6#5, 0xF0000001#32)]) (fun t => t.reg 5#5 == 0x00000010#32 && t.pc == 0x204#32) = true := by decide
theorem test_srli : after (.srli 5#5 6#5 4#5) (at_ 0x200#32 [(6#5, 0x80000000#32)]) (fun t => t.reg 5#5 == 0x08000000#32 && t.pc == 0x204#32) = true := by decide
theorem test_srai : after (.srai 5#5 6#5 4#5) (at_ 0x200#32 [(6#5, 0x80000000#32)]) (fun t => t.reg 5#5 == 0xF8000000#32 && t.pc == 0x204#32) = true := by decide
theorem test_add : after (.add 5#5 6#5 7#5) (at_ 0x200#32 [(6#5, 0xFFFFFFFF#32), (7#5, 1#32)]) (fun t => t.reg 5#5 == 0#32 && t.pc == 0x204#32) = true := by decide
theorem test_add_same_register : after (.add 5#5 5#5 5#5) (at_ 0x200#32 [(5#5, 21#32)]) (fun t => t.reg 5#5 == 42#32 && t.pc == 0x204#32) = true := by decide
theorem test_sub : after (.sub 5#5 6#5 7#5) (at_ 0x200#32 [(7#5, 1#32)]) (fun t => t.reg 5#5 == 0xFFFFFFFF#32 && t.pc == 0x204#32) = true := by decide
theorem test_sll : after (.sll 5#5 6#5 7#5) (at_ 0x200#32 [(6#5, 1#32), (7#5, 0x21#32)]) (fun t => t.reg 5#5 == 2#32 && t.pc == 0x204#32) = true := by decide
theorem test_slt : after (.slt 5#5 6#5 7#5) (at_ 0x200#32 [(6#5, 0x80000000#32)]) (fun t => t.reg 5#5 == 1#32 && t.pc == 0x204#32) = true := by decide
theorem test_sltu : after (.sltu 5#5 6#5 7#5) (at_ 0x200#32 [(6#5, 0x80000000#32)]) (fun t => t.reg 5#5 == 0#32 && t.pc == 0x204#32) = true := by decide
theorem test_xor : after (.xor 5#5 6#5 7#5) (at_ 0x200#32 [(6#5, 0xFF00FF00#32), (7#5, 0x0FF00FF0#32)]) (fun t => t.reg 5#5 == 0xF0F0F0F0#32 && t.pc == 0x204#32) = true := by decide
theorem test_srl : after (.srl 5#5 6#5 7#5) (at_ 0x200#32 [(6#5, 0x80000000#32), (7#5, 31#32)]) (fun t => t.reg 5#5 == 1#32 && t.pc == 0x204#32) = true := by decide
theorem test_sra : after (.sra 5#5 6#5 7#5) (at_ 0x200#32 [(6#5, 0x80000000#32), (7#5, 31#32)]) (fun t => t.reg 5#5 == 0xFFFFFFFF#32 && t.pc == 0x204#32) = true := by decide
theorem test_or : after (.or 5#5 6#5 7#5) (at_ 0x200#32 [(6#5, 0xF0#32), (7#5, 0x0F#32)]) (fun t => t.reg 5#5 == 0xFF#32 && t.pc == 0x204#32) = true := by decide
theorem test_and : after (.and 5#5 6#5 7#5) (at_ 0x200#32 [(6#5, 0xFF#32), (7#5, 0xF0#32)]) (fun t => t.reg 5#5 == 0xF0#32 && t.pc == 0x204#32) = true := by decide
theorem test_x0_discards : after (.addi 0#5 0#5 5#12) (at_ 0x200#32 []) (fun t => t.reg 0#5 == 0#32 && t.pc == 0x204#32) = true := by decide
theorem test_jal : after (.jal 1#5 8#21) (at_ 0x200#32 []) (fun t => t.reg 1#5 == 0x204#32 && t.pc == 0x208#32) = true := by decide
theorem test_jalr : after (.jalr 1#5 6#5 4#12) (at_ 0x200#32 [(6#5, 0x1001#32)]) (fun t => t.reg 1#5 == 0x204#32 && t.pc == 0x1004#32) = true := by decide
theorem test_beq : after (.beq 6#5 7#5 16#13) (at_ 0x200#32 [(6#5, 5#32), (7#5, 5#32)]) (fun t => t.reg 5#5 == 0#32 && t.pc == 0x210#32) = true := by decide
theorem test_bne : after (.bne 6#5 7#5 16#13) (at_ 0x200#32 [(6#5, 5#32), (7#5, 6#32)]) (fun t => t.reg 5#5 == 0#32 && t.pc == 0x210#32) = true := by decide
theorem test_blt : after (.blt 6#5 7#5 16#13) (at_ 0x200#32 [(6#5, 0xFFFFFFFF#32), (7#5, 0#32)]) (fun t => t.reg 5#5 == 0#32 && t.pc == 0x210#32) = true := by decide
theorem test_bge : after (.bge 6#5 7#5 16#13) (at_ 0x200#32 [(6#5, 0xFFFFFFFF#32), (7#5, 0#32)]) (fun t => t.reg 5#5 == 0#32 && t.pc == 0x204#32) = true := by decide
theorem test_bltu : after (.bltu 6#5 7#5 16#13) (at_ 0x200#32 [(6#5, 0xFFFFFFFF#32), (7#5, 0#32)]) (fun t => t.reg 5#5 == 0#32 && t.pc == 0x204#32) = true := by decide
theorem test_bgeu : after (.bgeu 6#5 7#5 16#13) (at_ 0x200#32 [(6#5, 0xFFFFFFFF#32), (7#5, 0#32)]) (fun t => t.reg 5#5 == 0#32 && t.pc == 0x210#32) = true := by decide
theorem test_lb : after (.lb 5#5 6#5 8#12) (withWord (at_ 0x200#32 [(6#5, 0x1000#32)])) (fun t => t.reg 5#5 == 0xFFFFFF80#32 && t.pc == 0x204#32) = true := by decide
theorem test_lh : after (.lh 5#5 6#5 8#12) (withWord (at_ 0x200#32 [(6#5, 0x1000#32)])) (fun t => t.reg 5#5 == 0xFFFF9180#32 && t.pc == 0x204#32) = true := by decide
theorem test_lw : after (.lw 5#5 6#5 8#12) (withWord (at_ 0x200#32 [(6#5, 0x1000#32)])) (fun t => t.reg 5#5 == 0xB3A29180#32 && t.pc == 0x204#32) = true := by decide
theorem test_lbu : after (.lbu 5#5 6#5 8#12) (withWord (at_ 0x200#32 [(6#5, 0x1000#32)])) (fun t => t.reg 5#5 == 0x00000080#32 && t.pc == 0x204#32) = true := by decide
theorem test_lhu : after (.lhu 5#5 6#5 8#12) (withWord (at_ 0x200#32 [(6#5, 0x1000#32)])) (fun t => t.reg 5#5 == 0x00009180#32 && t.pc == 0x204#32) = true := by decide
theorem test_lw_misaligned : after (.lw 5#5 6#5 8#12) (withWord (at_ 0x200#32 [(6#5, 0x1001#32)])) (fun t => t.mcauseEc == 4#4 && t.mtval == 0x1009#32 && t.pc == 0x1C0#32) = true := by decide
theorem test_sb : after (.sb 6#5 7#5 8#12) (withWord (at_ 0x200#32 [(6#5, 0x1000#32), (7#5, 0x11223344#32)])) (fun t => readLE (t.byte .ext) 0x1008 4 == 0xB3A29144#32 && t.pc == 0x204#32) = true := by decide
theorem test_sh : after (.sh 6#5 7#5 8#12) (withWord (at_ 0x200#32 [(6#5, 0x1000#32), (7#5, 0x11223344#32)])) (fun t => readLE (t.byte .ext) 0x1008 4 == 0xB3A23344#32 && t.pc == 0x204#32) = true := by decide
theorem test_sw : after (.sw 6#5 7#5 8#12) (withWord (at_ 0x200#32 [(6#5, 0x1000#32), (7#5, 0x11223344#32)])) (fun t => readLE (t.byte .ext) 0x1008 4 == 0x11223344#32 && t.pc == 0x204#32) = true := by decide
theorem test_sb_timer_window : after (.sb 6#5 7#5 0#12) ({ at_ 0x300#32 [(6#5, 0x490000#32)] with mstatusMie := false }) (fun t => t.mepc == 0x300#32 && t.mcauseWord == 7#32 && t.mtval == 0x490000#32 && t.mstatusWord == 0x1800#32) = true := by decide
theorem test_sw_mtimecmp : after (.sw 6#5 7#5 8#12) (at_ 0x200#32 [(6#5, 0x490000#32), (7#5, 1000#32)]) (fun t => t.timer.mtimecmp == 0xFFFFFFFF000003E8#64) = true := by decide
theorem test_sw_mtimecmph : after (.sw 6#5 7#5 12#12) (at_ 0x200#32 [(6#5, 0x490000#32)]) (fun t => t.timer.mtimecmp == 0x00000000FFFFFFFF#64) = true := by decide
theorem test_lw_mtimeclkset : after (.lw 5#5 6#5 16#12) (at_ 0x200#32 [(6#5, 0x490000#32)]) (fun t => t.reg 5#5 == 0x30064#32) = true := by decide
theorem test_fence : after (.fence 15#4 15#4) (at_ 0x200#32 []) (fun t => t.pc == 0x204#32 && t.minstret == 1#64) = true := by decide
theorem test_fenceI : after (.fenceI) ({ at_ 0x200#32 [] with fetchQueue := [(0x204#32, 0#32)] }) (fun t => t.pc == 0x204#32 && t.fetchQueue == []) = true := by decide
theorem test_ecall : after (.ecall) ({ at_ 0x240#32 [] with mstatusMie := true }) (fun t => t.mepc == 0x240#32 && t.mcauseWord == 11#32 && t.mtval == 0#32 && t.mstatusWord == 0x1880#32 && t.pc == 0x1C0#32 && t.minstret == 0#64) = true := by decide
theorem test_ebreak : after (.ebreak) (at_ 0x244#32 []) (fun t => t.mepc == 0x244#32 && t.mcauseWord == 3#32 && t.pc == 0x1C0#32) = true := by decide
theorem test_mret : after (.mret) ({ at_ 0x1C0#32 [] with mepc := 0x240#32 }) (fun t => t.mstatusWord == 0x1888#32 && t.pc == 0x240#32) = true := by decide
theorem test_mret_twice_saved : after (.mret) ({ at_ 0x1C0#32 [] with mepc := 0x300#32, mstatusMpie := false }) (fun t => t.mstatusWord == 0x1880#32 && t.pc == 0x300#32) = true := by decide
theorem test_wfi : after (.wfi) (at_ 0x300#32 []) (fun t => t.waiting && t.pc == 0x304#32) = true := by decide
theorem test_wfi_pending : after (.wfi) ({ at_ 0x300#32 [] with mieMsie := true, pins := { Pins.idle with softIrq := true } }) (fun t => !t.waiting && t.pc == 0x304#32) = true := by decide
theorem test_csrrw : after (.csrrw 5#5 0x340#12 6#5) ({ at_ 0x200#32 [(6#5, 0x0000000F#32)] with mscratch := 0x000000AA#32 }) (fun t => t.reg 5#5 == 0xAA#32 && t.mscratch == 0xF#32) = true := by decide
theorem test_csrrw_read_only : after (.csrrw 0#5 0xF11#12 0#5) ({ at_ 0x200#32 [(6#5, 0x0000000F#32)] with mscratch := 0x000000AA#32 }) (fun t => t.mcauseWord == 2#32 && t.mtval == 0xF1101073#32) = true := by decide
theorem test_csrrs : after (.csrrs 0#5 0x300#12 6#5) ({ at_ 0x200#32 [(6#5, 0x0000000F#32)] with mscratch := 0x000000AA#32 }) (fun t => t.mstatusWord == 0x1888#32) = true := by decide
theorem test_csrrs_mimpid : after (.csrrs 5#5 0xF13#12 0#5) ({ at_ 0x200#32 [(6#5, 0x0000000F#32)] with mscratch := 0x000000AA#32 }) (fun t => t.reg 5#5 == 0x17081800#32) = true := by decide
theorem test_csrrc : after (.csrrc 5#5 0x304#12 6#5) ({ at_ 0x200#32 [(6#5, 0x0000000F#32)] with mieMsie := true, mieMtie := true, mieMeie := true }) (fun t => t.reg 5#5 == 0x888#32 && t.mieWord == 0x880#32) = true := by decide
theorem test_csrrwi : after (.csrrwi 5#5 0x340#12 17#5) ({ at_ 0x200#32 [(6#5, 0x0000000F#32)] with mscratch := 0x000000AA#32 }) (fun t => t.reg 5#5 == 0xAA#32 && t.mscratch == 0x11#32) = true := by decide
theorem test_csrrsi : after (.csrrsi 0#5 0x300#12 8#5) ({ at_ 0x200#32 [(6#5, 0x0000000F#32)] with mscratch := 0x000000AA#32 }) (fun t => t.mstatusWord == 0x1888#32) = true := by decide
theorem test_csrrci : after (.csrrci 5#5 0x300#12 8#5) ({ at_ 0x200#32 [] with mstatusMie := true }) (fun t => t.reg 5#5 == 0x1888#32 && t.mstatusWord == 0x1880#32) = true := by decide
theorem test_mul : after (.mul 5#5 6#5 7#5) (at_ 0x200#32 [(6#5, 0xFFFFFFFF#32), (7#5, 2#32)]) (fun t => t.reg 5#5 == 0xFFFFFFFE#32 && t.pc == 0x204#32) = true := by decide
theorem test_mulh : after (.mulh 5#5 6#5 7#5) (at_ 0x200#32 [(6#5, 0x80000000#32), (7#5, 0x80000000#32)]) (fun t => t.reg 5#5 == 0x40000000#32 && t.pc == 0x204#32) = true := by decide
theorem test_mulhsu : after (.mulhsu 5#5 6#5 7#5) (at_ 0x200#32 [(6#5, 0xFFFFFFFF#32), (7#5, 0xFFFFFFFF#32)]) (fun t => t.reg 5#5 == 0xFFFFFFFF#32 && t.pc == 0x204#32) = true := by decide
theorem test_mulhu : after (.mulhu 5#5 6#5 7#5) (at_ 0x200#32 [(6#5, 0xFFFFFFFF#32), (7#5, 0xFFFFFFFF#32)]) (fun t => t.reg 5#5 == 0xFFFFFFFE#32 && t.pc == 0x204#32) = true := by decide
theorem test_div : after (.div 5#5 6#5 7#5) (at_ 0x200#32 [(6#5, 0xFFFFFFF9#32), (7#5, 2#32)]) (fun t => t.reg 5#5 == 0xFFFFFFFD#32 && t.pc == 0x204#32) = true := by decide
theorem test_div_overflow : after (.div 5#5 6#5 7#5) (at_ 0x200#32 [(6#5, 0x80000000#32), (7#5, 0xFFFFFFFF#32)]) (fun t => t.reg 5#5 == 0x80000000#32 && t.pc == 0x204#32) = true := by decide
theorem test_divu : after (.divu 5#5 6#5 7#5) (at_ 0x200#32 [(6#5, 0xFFFFFFF9#32), (7#5, 2#32)]) (fun t => t.reg 5#5 == 0x7FFFFFFC#32 && t.pc == 0x204#32) = true := by decide
theorem test_divu_by_zero : after (.divu 5#5 6#5 7#5) (at_ 0x200#32 [(6#5, 0xFFFFFFF9#32)]) (fun t => t.reg 5#5 == 0xFFFFFFFF#32 && t.pc == 0x204#32) = true := by decide
theorem test_rem : after (.rem 5#5 6#5 7#5) (at_ 0x200#32 [(6#5, 0xFFFFFFF9#32), (7#5, 2#32)]) (fun t => t.reg 5#5 == 0xFFFFFFFF#32 && t.pc == 0x204#32) = true := by decide
theorem test_rem_by_zero : after (.rem 5#5 6#5 7#5) (at_ 0x200#32 [(6#5, 0xFFFFFFF9#32)]) (fun t => t.reg 5#5 == 0xFFFFFFF9#32 && t.pc == 0x204#32) = true := by decide
theorem test_remu : after (.remu 5#5 6#5 7#5) (at_ 0x200#32 [(6#5, 0xFFFFFFF9#32), (7#5, 2#32)]) (fun t => t.reg 5#5 == 1#32 && t.pc == 0x204#32) = true := by decide
theorem test_cIllegal : after (.cIllegal) (at_ 0x400#32 []) (fun t => t.mepc == 0x400#32 && t.mcauseWord == 2#32 && t.mtval == 0#32) = true := by decide
theorem test_cAddi4spn : after (.cAddi4spn 0#3 16#10) (at_ 0x200#32 [(2#5, 0x2000#32)]) (fun t => t.reg 8#5 == 0x2010#32 && t.pc == 0x202#32) = true := by decide
theorem test_cLw : after (.cLw 1#3 0#3 4#7) ({ at_ 0x200#32 [(8#5, 0x1000#32)] with ext := Memory.storeLE [] 0x1004 4 0xDEADBEEF#32 }) (fun t => t.reg 9#5 == 0xDEADBEEF#32 && t.pc == 0x202#32) = true := by decide
theorem test_cSw : after (.cSw 0#3 1#3 4#7) (at_ 0x200#32 [(8#5, 0x1000#32), (9#5, 0x11223344#32)]) (fun t => readLE (t.byte .ext) 0x1004 4 == 0x11223344#32 && t.pc == 0x202#32) = true := by decide
theorem test_cNop : after (.cNop) (at_ 0x200#32 []) (fun t => t.reg 8#5 == 0#32 && t.pc == 0x202#32) = true := by decide
theorem test_cAddi : after (.cAddi 5#5 0x3F#6) (at_ 0x200#32 []) (fun t => t.reg 5#5 == 0xFFFFFFFF#32 && t.pc == 0x202#32) = true := by decide
theorem test_cJal : after (.cJal 8#12) (at_ 0x200#32 []) (fun t => t.reg 1#5 == 0x202#32 && t.pc == 0x208#32) = true := by decide
theorem test_cLi : after (.cLi 5#5 0x3F#6) (at_ 0x200#32 []) (fun t => t.reg 5#5 == 0xFFFFFFFF#32 && t.pc == 0x202#32) = true := by decide
theorem test_cAddi16sp : after (.cAddi16sp (BitVec.ofInt 10 (-64))) (at_ 0x200#32 [(2#5, 0x2000#32)]) (fun t => t.reg 2#5 == 0x1FC0#32 && t.pc == 0x202#32) = true := by decide
theorem test_cLui : after (.cLui 5#5 0x20#6) (at_ 0x200#32 []) (fun t => t.reg 5#5 == 0xFFFE0000#32 && t.pc == 0x202#32) = true := by decide
theorem test_cSrli : after (.cSrli 0#3 4#5) (at_ 0x200#32 [(8#5, 0x80000000#32)]) (fun t => t.reg 8#5 == 0x08000000#32 && t.pc == 0x202#32) = true := by decide
theorem test_cSrai : after (.cSrai 0#3 4#5) (at_ 0x200#32 [(8#5, 0x80000000#32)]) (fun t => t.reg 8#5 == 0xF8000000#32 && t.pc == 0x202#32) = true := by decide
theorem test_cAndi : after (.cAndi 0#3 (BitVec.ofInt 6 (-16))) (at_ 0x200#32 [(8#5, 0x12345678#32)]) (fun t => t.reg 8#5 == 0x12345670#32 && t.pc == 0x202#32) = true := by decide
theorem test_cSub : after (.cSub 0#3 1#3) (at_ 0x200#32 [(8#5, 5#32), (9#5, 7#32)]) (fun t => t.reg 8#5 == 0xFFFFFFFE#32 && t.pc == 0x202#32) = true := by decide
theorem test_cXor : after (.cXor 0#3 1#3) (at_ 0x200#32 [(8#5, 0xFF00FF00#32), (9#5, 0x0FF00FF0#32)]) (fun t => t.reg 8#5 == 0xF0F0F0F0#32 && t.pc == 0x202#32) = true := by decide
theorem test_cOr : after (.cOr 0#3 1#3) (at_ 0x200#32 [(8#5, 0xF0#32), (9#5, 0x0F#32)]) (fun t => t.reg 8#5 == 0xFF#32 && t.pc == 0x202#32) = true := by decide
theorem test_cAnd : after (.cAnd 0#3 1#3) (at_ 0x200#32 [(8#5, 0xFF#32), (9#5, 0xF0#32)]) (fun t => t.reg 8#5 == 0xF0#32 && t.pc == 0x202#32) = true := by decide
theorem test_cJ : after (.cJ (BitVec.ofInt 12 (-4))) (at_ 0x200#32 []) (fun t => t.reg 8#5 == 0#32 && t.pc == 0x1FC#32) = true := by decide
theorem test_cBeqz : after (.cBeqz 0#3 16#9) (at_ 0x200#32 [(8#5, 1#32)]) (fun t => t.reg 8#5 == 1#32 && t.pc == 0x202#32) = true := by decide
theorem test_cBnez : after (.cBnez 0#3 (BitVec.ofInt 9 (-4))) (at_ 0x200#32 [(8#5, 3#32)]) (fun t => t.reg 8#5 == 3#32 && t.pc == 0x1FC#32) = true := by decide
theorem test_cSlli : after (.cSlli 5#5 4#5) (at_ 0x200#32 [(5#5, 0xF0000001#32)]) (fun t => t.reg 5#5 == 0x10#32 && t.pc == 0x202#32) = true := by decide
/-- R282 point 4, U27. -/
theorem test_compressed_shift_by_zero :
    exec (.cSlli 5#5 0#5) State.reset = .refused .compressedShiftByZero ∧
    exec (.cSrli 0#3 0#5) State.reset = .refused .compressedShiftByZero ∧
    exec (.cSrai 0#3 0#5) State.reset = .refused .compressedShiftByZero := ⟨rfl, rfl, rfl⟩
theorem test_cLwsp : after (.cLwsp 5#5 8#8) ({ at_ 0x200#32 [(2#5, 0x2000#32)] with ext := Memory.storeLE [] 0x2008 4 0x42#32 }) (fun t => t.reg 5#5 == 0x42#32 && t.pc == 0x202#32) = true := by decide
theorem test_cJr : after (.cJr 1#5) (at_ 0x200#32 [(1#5, 0x205#32)]) (fun t => t.reg 1#5 == 0x205#32 && t.pc == 0x204#32) = true := by decide
theorem test_cMv : after (.cMv 5#5 6#5) (at_ 0x200#32 [(6#5, 0x1234#32)]) (fun t => t.reg 5#5 == 0x1234#32 && t.pc == 0x202#32) = true := by decide
theorem test_cEbreak : after (.cEbreak) (at_ 0x246#32 []) (fun t => t.mepc == 0x246#32 && t.mcauseWord == 3#32 && t.pc == 0x1C0#32) = true := by decide
theorem test_cJalr : after (.cJalr 6#5) (at_ 0x200#32 [(6#5, 0x1000#32)]) (fun t => t.reg 1#5 == 0x202#32 && t.pc == 0x1000#32) = true := by decide
theorem test_cAdd : after (.cAdd 5#5 6#5) (at_ 0x200#32 [(5#5, 1#32), (6#5, 0xFFFFFFFF#32)]) (fun t => t.reg 5#5 == 0#32 && t.pc == 0x202#32) = true := by decide
theorem test_cSwsp : after (.cSwsp 5#5 8#8) (at_ 0x200#32 [(2#5, 0x2000#32), (5#5, 0x42#32)]) (fun t => readLE (t.byte .ext) 0x2008 4 == 0x42#32 && t.pc == 0x202#32) = true := by decide

/-! ### Whole steps and units -/

/-- The first instruction after reset runs. -/
theorem test_step_runs_lui :
    afterStep (State.reset.withFetchWord 32 0x123452B7) (fun t => t.reg 5#5 == 0x12345000#32 && t.pc == 0x204#32) = true := by
  decide

/-- R515 step 4, R525: a timer interrupt at a boundary. -/
theorem test_timer_interrupt : afterStep { at_ 0x304#32 [] with
      mstatusMie := true, mieMtie := true, timer := { Timer.reset with mtimecmp := 0#64 } }
    (fun t => t.mepc == 0x304#32 && t.mcauseWord == 0x80000007#32 && t.mstatusWord == 0x1880#32 && t.pc == 0x1C0#32)
    = true := by decide

/-- The reset state in a configuration that differs from the default one. -/
def resetIn (f : Config → Config) : State := State.resetWith (f Config.default)

/-- The default configuration without the C extension. -/
def noC (c : Config) : Config := { c with rvc := false }

/-- R245, R523: without the C extension the halfword 0x2002 leaves itself in MTVAL. -/
theorem test_halfword_without_c :
    afterStep ((resetIn noC).withFetchWord 32 0x12342002) (fun t => t.mcauseEc == 2#4 && t.mtval == 0x2002#32) = true := by
  decide

/-- R449, R523: without the C extension the zero halfword leaves the whole word in MTVAL, or 0. -/
theorem test_zero_halfword_without_c :
    (let s := (resetIn noC).withFetchWord 32 0x12340000;
      s.fetchAndRun = s.raise .illegalInstruction 0x12340000#32 ∨ s.fetchAndRun = s.raise .illegalInstruction 0#32) :=
  (State.runFetched_eq ((resetIn noC).withFetchWord 32 0x12340000) (.c16 0#16)).1 rfl

/-- R13, R572: rst_n asserted and released between two steps resets the hart. -/
theorem test_reset_pulse : afterStep
    { (at_ 0x200#32 [(5#5, 1#32)]).withFetchWord 32 0x00000073 with env := [⟨[.rstN true, .rstN false], false, []⟩] }
    (fun t => t.reg 5#5 == 0#32 && t.pc == 0x200#32 && t.mcauseWord == 0#32 && t.inReset && !t.resetAsserted) = true := by
  decide

/-- R6, R230: a pattern with a bit outside its mask selects no address, and overlaps nothing. -/
theorem test_pattern_outside_mask :
    (let c := { Config.default with tcmPattern := 0x00490001#32 }; c.legal = true ∧ c.inTcm 0x00490001#32 = false) ∧
      ({ Config.default with tcmPattern := 0x00490000#32 } : Config).legal = false := by decide

/-- R546: the exact example, BPCONTROL 0x1180 with BPLOADDR 0x240. -/
theorem test_breakpoint_example : afterStep { at_ 0x240#32 [] with
      brkm := { Brkm.reset Config.default with
        bps := [{ Breakpoint.reset.writeControl ⟨true, true, true, true, true⟩ false 0x1180#32 0 with
          loAddr := 0x240#32 }, Breakpoint.reset] } }
    (fun t => t.mepc == 0x240#32 && t.mcauseWord == 3#32 && t.mtval == 0x240#32 && t.pc == 0x1C0#32 &&
      t.readCsr .bpcontrol &&& 0x00FFFFFF#32 == 0x00A09180#32) = true := by decide

/-- R507, steps 3 to 4 of the worked example: SOI puts vector 5 in service and the request falls. -/
theorem test_ipic_soi : after (.csrrw 0#5 0xBF5#12 0#5)
    { at_ 0x200#32 [] with ipic := { Ipic.reset with ip := 0x20#16, ie := 0x24#16, im := 0x24#16 } }
    (fun t => t.ipic.isv == 0x20#16 && t.readCsr .ipicCisv == 5#32 && !t.meip) = true := by decide

/-- R124: the exact read of IPIC_ICSR. -/
theorem test_ipic_icsr : { State.reset with
    ipic := { Ipic.reset with ie := 0x20#16, im := 0x20#16, idx := 5#4 } }.readCsr .ipicIcsr = 0x5306#32 := by decide

/-- R36, R120: which addresses exist in the default configuration. -/
theorem test_csr_map : csrAt Config.default 0x300#12 = some .mstatus ∧ csrAt Config.default 0x7C7#12 = some .brkmctrl ∧
    csrAt Config.default 0x302#12 = none ∧ csrAt Config.default 0x3A0#12 = none ∧ csrAt Config.default 0x7C4#12 = none ∧
    State.reset.readCsr .misa = 0x40801104#32 := by decide


/-! ### Witnesses: states and operands that meet the hypotheses of the statements, clause by clause -/

/-- The state with the given breakpoint first. -/
def withBp (b : Breakpoint) (s : State) : State := { s with brkm := { s.brkm with bps := [b, Breakpoint.reset] } }

/-- A breakpoint on every access of every kind. -/
def everyAccess (action : BitVec 3) (dryrun : Bool) : Breakpoint :=
  { Breakpoint.reset with execen := true, loaden := true, storeen := true, action := action, dryrun := dryrun }

/-- A configuration with one device, at 0x40000000. -/
def withDevice (c : Config) : Config :=
  { c with regions := ⟨0x40000000, 0x1000, true, true, true, [1, 2, 4], true⟩ :: c.regions }

theorem witness_DecodeOfEncodeGivesInstruction :
    Instr.wf (.jal 31#5 0x0FFFFE#21) = true ∧ Instr.wf (.cAddi16sp 0x3F0#10) = true ∧ Instr.wf (.cLui 31#5 0x20#6) = true ∧
      Instr.wf (.cSwsp 31#5 252#8) = true ∧ Instr.wf (.cIllegal) = true := by decide

theorem witness_EncodeOfDecodeGivesBytes :
    decode [0xB7#8, 0x52#8, 0x34#8, 0x12#8, 0xFF#8] = .ok (.lui 5#5 0x12345#20, [0xFF#8]) ∧
      decode [0x01#8, 0x00#8] = .ok (.cNop, []) := by decide

/-- One halfword for each of the nine clauses. -/
theorem witness_ReservedCompressedRaiseIllegal : State.reset.cfg.rvc = true ∧
    ((0x0004#16 : Half).extractLsb' 0 2 = 0#2 ∧ (0x0004#16 : Half).extractLsb' 13 3 = 0#3 ∧
      (0x0004#16 : Half).extractLsb' 5 8 = 0#8) ∧
    ((0x2000#16 : Half).extractLsb' 0 2 = 0#2 ∧ (0x2000#16 : Half).extractLsb' 13 3 = 1#3) ∧
    ((0xFFFC#16 : Half).extractLsb' 0 2 = 0#2 ∧ (0xFFFC#16 : Half).extractLsb' 13 3 = 7#3) ∧
    ((0x6081#16 : Half).extractLsb' 0 2 = 1#2 ∧ (0x6081#16 : Half).extractLsb' 13 3 = 3#3 ∧
      (0x6081#16 : Half).extractLsb' 12 1 = 0#1 ∧ (0x6081#16 : Half).extractLsb' 2 5 = 0#5) ∧
    ((0x9001#16 : Half).extractLsb' 0 2 = 1#2 ∧ (0x9001#16 : Half).extractLsb' 13 3 = 4#3 ∧
      (0x9001#16 : Half).extractLsb' 12 1 = 1#1 ∧ (0x9001#16 : Half).extractLsb' 11 1 = 0#1) ∧
    ((0x9C01#16 : Half).extractLsb' 0 2 = 1#2 ∧ (0x9C01#16 : Half).extractLsb' 13 3 = 4#3 ∧
      (0x9C01#16 : Half).extractLsb' 12 1 = 1#1 ∧ (0x9C01#16 : Half).extractLsb' 10 2 = 3#2) ∧
    ((0x1002#16 : Half).extractLsb' 0 2 = 2#2 ∧ (0x1002#16 : Half).extractLsb' 13 3 = 0#3 ∧
      (0x1002#16 : Half).extractLsb' 12 1 = 1#1) ∧
    ((0x4002#16 : Half).extractLsb' 0 2 = 2#2 ∧ (0x4002#16 : Half).extractLsb' 13 3 = 2#3 ∧
      (0x4002#16 : Half).extractLsb' 7 5 = 0#5) ∧
    ((0x2002#16 : Half).extractLsb' 0 2 = 2#2 ∧ (0x2002#16 : Half).extractLsb' 13 3 = 1#3) ∧
    ((0xFFFE#16 : Half).extractLsb' 0 2 = 2#2 ∧ (0xFFFE#16 : Half).extractLsb' 13 3 = 7#3) := by decide

theorem witness_AbsentInstructionsRaiseIllegal :
    ((resetIn (fun c => { c with rvm := false })).cfg.rvm = false ∧
      Instr.remu 31#5 31#5 31#5 ∈ [Instr.mul 31#5 31#5 31#5, .mulh 31#5 31#5 31#5, .mulhsu 31#5 31#5 31#5,
        .mulhu 31#5 31#5 31#5, .div 31#5 31#5 31#5, .divu 31#5 31#5 31#5, .rem 31#5 31#5 31#5, .remu 31#5 31#5 31#5]) ∧
    (let s := (resetIn noC).withFetchWord 32 0x12342002;
      let t := (resetIn noC).withFetchWord 32 0x12340000;
      s.cfg.rvc = false ∧ s.pc.toNat % 4 = 0 ∧ s.fetchWord s.pc s.pc = .ok 0x12342002#32 ∧
        (0x12342002#32 : Word).toNat % 4 ≠ 3 ∧ t.fetchWord t.pc t.pc = .ok 0x12340000#32 ∧
        (0x12340000#32 : Word).toNat % 4 ≠ 3 ∧ (0x12340000#32 : Word).toNat % 65536 = 0) ∧
    ((resetIn (fun c => { c with rve := true })).cfg.rve = true ∧ 16 ≤ (16#5 : Reg).toNat ∧
      Instr.wf (.sw 1#5 16#5 0#12) = true ∧ 16#5 ∈ (Instr.sw 1#5 16#5 0#12).fullRegs ∧
      Instr.wf (.cSwsp 31#5 0#8) = true ∧ 31#5 ∈ (Instr.cSwsp 31#5 0#8).fullRegs ∧
      Instr.wf (.csrrwi 16#5 0x340#12 0#5) = true ∧ 16#5 ∈ (Instr.csrrwi 16#5 0x340#12 0#5).fullRegs) := by
  refine ⟨?_, ⟨rfl, ?_, rfl, ?_, rfl, ?_, ?_⟩, ?_⟩ <;> decide

/-- The reset state with a 32-bit instruction at its pc, and with a 16-bit one. -/
theorem witness_StepRunsTheDecodedInstruction :
    (AboutToExecute (State.reset.withFetchWord 32 0x123452B7) ∧ FetchReady (State.reset.withFetchWord 32 0x123452B7) 0x200#32 ∧
      FetchReady (State.reset.withFetchWord 32 0x123452B7) (0x200#32 + 2#32) ∧
      decode (pcBytes (State.reset.withFetchWord 32 0x123452B7)) = .ok (.lui 5#5 0x12345#20, []) ∧
      (Instr.lui 5#5 0x12345#20).existsIn (State.reset.withFetchWord 32 0x123452B7).cfg = true) ∧
    (AboutToExecute (State.reset.withFetchWord 16 0x0001) ∧ FetchReady (State.reset.withFetchWord 16 0x0001) 0x200#32 ∧
      decode (pcBytes (State.reset.withFetchWord 16 0x0001)) = .ok (.cNop, [0#8, 0#8]) ∧
      Instr.cNop.existsIn (State.reset.withFetchWord 16 0x0001).cfg = true) := by
  refine ⟨⟨⟨?_, ?_, ?_, ?_, ?_, ?_, ?_, ?_, ?_⟩, ?_, ?_, ?_, ?_⟩, ⟨?_, ?_, ?_, ?_, ?_, ?_, ?_, ?_, ?_⟩, ?_, ?_, ?_⟩ <;>
    (try unfold FetchReady) <;> decide

/-- A 32-bit word without a meaning, and without the C extension the zero halfword, whose low bits are
not 11. -/
theorem witness_UndecodableBytesRaiseIllegal :
    (AboutToExecute (State.reset.withFetchWord 32 0xFFFFFFFF) ∧ (State.reset.withFetchWord 32 0xFFFFFFFF).dbgc.resumed = false ∧
      FetchReady (State.reset.withFetchWord 32 0xFFFFFFFF) 0x200#32 ∧
      FetchReady (State.reset.withFetchWord 32 0xFFFFFFFF) (0x200#32 + 2#32) ∧
      decode (pcBytes (State.reset.withFetchWord 32 0xFFFFFFFF)) = .error .unusedOpcode) ∧
    (AboutToExecute ((resetIn noC).withFetchWord 32 0x12340000) ∧
      FetchReady ((resetIn noC).withFetchWord 32 0x12340000) 0x200#32 ∧
      FetchReady ((resetIn noC).withFetchWord 32 0x12340000) (0x200#32 + 2#32) ∧
      ((resetIn noC).withFetchWord 32 0x12340000).cfg.rvc = false ∧
      (instrByte ((resetIn noC).withFetchWord 32 0x12340000) 0x200#32).toNat % 4 ≠ 3) := by
  refine ⟨⟨⟨?_, ?_, ?_, ?_, ?_, ?_, ?_, ?_, ?_⟩, ?_, ?_, ?_, ?_⟩, ⟨?_, ?_, ?_, ?_, ?_, ?_, ?_, ?_, ?_⟩, ?_, ?_, ?_, ?_⟩ <;>
    (try unfold FetchReady) <;> decide

/-- The first address outside the external memory, and a 32-bit instruction across its end. -/
theorem witness_FetchResults_errors :
    (({ State.reset with pc := 0x400000#32 } : State).slot.stale = [] ∧ FetchFails { State.reset with pc := 0x400000#32 } 0x400000#32) ∧
    (({ State.reset with pc := 0x3FFFFE#32 } : State).pc.getLsbD 0 = false ∧
      FetchReady { State.reset with pc := 0x3FFFFE#32, ext := [(0x3FFFFE, 3#8)] } 0x3FFFFE#32 ∧
      (instrByte { State.reset with pc := 0x3FFFFE#32, ext := [(0x3FFFFE, 3#8)] } 0x3FFFFE#32).toNat % 4 = 3 ∧
      FetchFails { State.reset with pc := 0x3FFFFE#32, ext := [(0x3FFFFE, 3#8)] } (0x3FFFFE#32 + 2#32)) := by
  unfold FetchFails FetchReady; decide

/-- The external interrupt with the software one beside it, the software one with the timer's beside it, the timer's
at mtime = mtimecmp. -/
theorem witness_PendingInterruptIsTaken :
    (let s := { State.reset with
        mstatusMie := true, mieMeie := true, mieMsie := true,
        pins := { Pins.idle with softIrq := true }, ipic := { Ipic.reset with ip := 0x8000#16, im := 0x8000#16, ie := 0x8000#16 } };
      s.resetAsserted = false ∧ s.inReset = false ∧ s.dbgc.dmode = false ∧ s.mstatusMie = true ∧
        s.dbgc.coreCtrl.irqDsbl = false ∧ s.cfg.interruptLatencyZero = true ∧ s.mieMeie = true ∧ s.meip = true) ∧
    (let s := { State.reset with
        mstatusMie := true, mieMsie := true, mieMtie := true,
        pins := { Pins.idle with softIrq := true }, timer := { Timer.reset with mtimecmp := 0#64 } };
      s.resetAsserted = false ∧ s.inReset = false ∧ s.dbgc.dmode = false ∧ s.mstatusMie = true ∧
        ¬(s.mieMeie = true ∧ s.meip = true) ∧ s.mieMsie = true ∧ s.msip = true) ∧
    (let s := { State.reset with
        mstatusMie := true, mieMtie := true,
        timer := { Timer.reset with mtime := 7#64, mtimecmp := 7#64 } };
      s.resetAsserted = false ∧ s.inReset = false ∧ s.dbgc.dmode = false ∧ s.mstatusMie = true ∧
        ¬(s.mieMeie = true ∧ s.meip = true) ∧ ¬(s.mieMsie = true ∧ s.msip = true) ∧ s.mieMtie = true ∧
        s.timer.mtimecmp.toNat ≤ s.timer.mtime.toNat) := by decide

theorem witness_WaitAndDebugModeExecuteNothing :
    (let s := { State.reset with waiting := true };
      s.resetAsserted = false ∧ s.inReset = false ∧ s.dbgc.dmode = false ∧ s.readCsr .mip &&& s.readCsr .mie = 0#32) ∧
    (let s := State.reset.enterDebug .halt; s.resetAsserted = false ∧ s.inReset = false ∧ s.dbgc.dmode = true) ∧
    (let s := { State.reset with waiting := true, mieMsie := true, pins := { Pins.idle with softIrq := true } };
      s.resetAsserted = false ∧ s.inReset = false ∧ s.dbgc.dmode = false ∧
        s.readCsr .mip &&& s.readCsr .mie ≠ 0#32 ∧ s.mstatusMie = false) := by decide

/-- rst_n asserted, and the core alone held by the debugger. -/
theorem witness_AssertedResetHoldsResetValues :
    (State.reset.cfg.legal = true ∧ ({ State.reset with pins := { Pins.idle with rstAsserted := true } } : State).resetAsserted = true) ∧
    ({ State.reset with dbgc := { Debug.reset with hartCtrl := ⟨false, true⟩ } } : State).resetAsserted = true ∧
    (let s := { State.reset with pins := { Pins.idle with rstAsserted := true }, mscratch := 7#32 };
      ∃ t, applyMoves [.softIrq true] s = .ok t ∧ t.resetAsserted = true ∧ t.mscratch = 0#32) := by
  refine ⟨?_, ?_, ⟨_, rfl, ?_⟩⟩ <;> decide

/-- One step from reset with an instruction placed: a state that meets the invariant, and a next state. -/
theorem witness_EveryStepKeepsTheInvariant : Inv (State.reset.withFetchWord 32 0x123452B7) ∧
    ((State.reset.withFetchWord 32 0x123452B7).slot.moves.length = 5) ∧
    afterStep { (State.reset.withFetchWord 32 0x123452B7) with env := [⟨[.clk 100], false, []⟩] }
      (fun t => t.cfg == Config.default && t.timer.mtime == 1#64) = true := by
  refine ⟨⟨⟨?_, ?_, ?_, ?_, ?_⟩, ⟨?_, ?_, ?_, ?_⟩, ⟨?_, ?_, ?_⟩⟩, ?_, ?_⟩ <;> decide

/-- A step that answers next, in the reset state with an instruction placed. -/
theorem witness_NoStepChangesTheConfiguration :
    afterStep { (State.reset.withFetchWord 32 0x00000073) with env := [⟨[], false, []⟩] } (fun t => t.pc == 0x1C0#32) = true := by
  decide

theorem witness_OnlyCsrInstructionsWriteControlState :
    (∀ rd a rs1, Instr.ecall ≠ .csrrw rd a rs1 ∧ Instr.ecall ≠ .csrrs rd a rs1 ∧ Instr.ecall ≠ .csrrc rd a rs1 ∧
      Instr.ecall ≠ .csrrwi rd a rs1 ∧ Instr.ecall ≠ .csrrsi rd a rs1 ∧ Instr.ecall ≠ .csrrci rd a rs1) ∧
    after .ecall State.reset (fun _ => true) = true ∧ after .mret State.reset (fun _ => true) = true ∧
    after (.lui 5#5 1#20) State.reset (fun _ => true) = true := by
  refine ⟨fun _ _ _ => ⟨?_, ?_, ?_, ?_, ?_, ?_⟩, ?_, ?_, ?_⟩ <;> first | (intro h; cases h) | decide

/-- The seven instructions all answer next on the dividend -2^31 and the divisor -1. -/
theorem witness_MultiplyDivideIdentities :
    (let s := at_ 0x200#32 [(6#5, 0x80000000#32), (7#5, 0xFFFFFFFF#32)];
      [Instr.div 5#5 6#5 7#5, .rem 5#5 6#5 7#5, .divu 5#5 6#5 7#5, .remu 5#5 6#5 7#5, .mul 5#5 6#5 7#5,
        .mulh 5#5 6#5 7#5, .mulhu 5#5 6#5 7#5].all (fun i => after i s (fun _ => true)) = true) := by decide

/-- A target with bit 1 set under the C extension, and one with bit 1 clear without it. -/
theorem witness_JumpResults :
    (0x1FE#32 = BitVec.ofInt 32 ((State.reset.pc).toInt + (BitVec.ofInt 21 (-2)).toInt) ∧ State.reset.cfg.rvc = true) ∧
    (0x202#32 = BitVec.ofInt 32 (((at_ 0x200#32 [(6#5, 0x200#32)]).reg 6#5).toInt + (3#12).toInt) &&& 0xFFFFFFFE#32 ∧
      (at_ 0x200#32 [(6#5, 0x200#32)]).cfg.rvc = true) ∧
    ((0x1FC#32 : Word) = BitVec.ofInt 32 (((resetIn noC).pc).toInt + (BitVec.ofInt 21 (-4)).toInt) ∧
      (0x1FC#32 : Word).getLsbD 1 = false) := by decide

/-- The same for the branches; and without the C extension a branch that is not taken. -/
theorem witness_BranchResults :
    (0x1FE#32 = BitVec.ofInt 32 ((State.reset.pc).toInt + (BitVec.ofInt 13 (-2)).toInt) ∧ State.reset.cfg.rvc = true) ∧
    (let s := (resetIn noC).setReg 6#5 1#32;
      (0x202#32 : Word) = BitVec.ofInt 32 (s.pc.toInt + (2#13).toInt) ∧ s.cfg.rvc = false ∧ (0x202#32 : Word).getLsbD 1 = true ∧
        s.reg 6#5 ≠ s.reg 7#5 ∧ ¬(s.reg 6#5).toInt < (s.reg 7#5).toInt ∧ (s.reg 7#5).toInt < (s.reg 6#5).toInt ∧
        ¬(s.reg 6#5).toNat < (s.reg 7#5).toNat ∧ (s.reg 7#5).toNat < (s.reg 6#5).toNat) := by decide

theorem witness_MisalignedTargetRaises :
    let s := (resetIn noC).setReg 6#5 0xFFFFFFFF#32
    s.cfg.rvc = false ∧ (s.pc + (0x0FFFFE#21 : BitVec 21).signExtend 32).getLsbD 1 = true ∧
      (s.reg 6#5 + (3#12 : BitVec 12).signExtend 32).getLsbD 1 = true ∧
      (s.pc + (2#13 : BitVec 13).signExtend 32).getLsbD 1 = true ∧ s.reg 6#5 = s.reg 6#5 ∧ s.reg 6#5 ≠ s.reg 7#5 ∧
      (s.reg 6#5).toInt < (s.reg 7#5).toInt ∧ (s.reg 6#5).toInt ≤ (s.reg 7#5).toInt ∧
      (s.reg 7#5).toNat < (s.reg 6#5).toNat ∧ (s.reg 7#5).toNat ≤ (s.reg 6#5).toNat := by decide

/-- The last word of the TCM, and the last halfword and word of the external memory. -/
theorem witness_LoadResults :
    (let s := at_ 0x200#32 [(6#5, 0x48FFFC#32)];
      loadShape s (.lw 5#5 6#5 0#12) = some ⟨5#5, 0x48FFFC#32, 4, .unsigned, 4#32⟩ ∧ s.bpQuiet .load 0x48FFFC#32 4 = true ∧
        GoesToTcm s.cfg 0x48FFFC#32 4 0xFFFC) ∧
    (let s := at_ 0x200#32 [(6#5, 0x3FFFFE#32)];
      loadShape s (.lh 5#5 6#5 0#12) = some ⟨5#5, 0x3FFFFE#32, 2, .signed, 4#32⟩ ∧ s.bpQuiet .load 0x3FFFFE#32 2 = true ∧
        GoesToExt s.cfg .load 0x3FFFFE#32 2) ∧
    (let s := at_ 0x200#32 [(2#5, 0x3FFF00#32)];
      loadShape s (.cLwsp 5#5 252#8) = some ⟨5#5, 0x3FFFFC#32, 4, .unsigned, 2#32⟩ ∧
        GoesToExt s.cfg .load 0x3FFFFC#32 4) := by
  refine ⟨⟨rfl, ?_, ⟨?_, ?_, ?_, ?_, ?_⟩⟩, ⟨rfl, ?_, ⟨?_, ?_, ?_, ?_, ?_⟩⟩, ⟨rfl, ⟨?_, ?_, ?_, ?_, ?_⟩⟩⟩ <;> decide

/-- The first and the last register of the timer window. -/
theorem witness_TimerLoadResults :
    (let s := at_ 0x200#32 [(6#5, 0x490000#32)];
      loadShape s (.lw 5#5 6#5 0#12) = some ⟨5#5, 0x490000#32, 4, .unsigned, 4#32⟩ ∧ s.bpQuiet .load 0x490000#32 4 = true ∧
        GoesToTimer s.cfg 0x490000#32 0) ∧
    (let s := at_ 0x200#32 [(9#5, 0x490000#32)];
      loadShape s (.cLw 0#3 1#3 16#7) = some ⟨8#5, 0x490010#32, 4, .unsigned, 2#32⟩ ∧ GoesToTimer s.cfg 0x490010#32 16) := by
  refine ⟨⟨rfl, ?_, ⟨?_, ?_, ?_, ?_⟩⟩, ⟨rfl, ⟨?_, ?_, ?_, ?_⟩⟩⟩ <;> decide

theorem witness_StoreResults :
    (let s := at_ 0x200#32 [(6#5, 0x480000#32), (7#5, 0xAABBCCDD#32)];
      storeShape s (.sb 6#5 7#5 0#12) = some ⟨0x480000#32, 1, 0xAABBCCDD#32, 4#32⟩ ∧ s.bpQuiet .store 0x480000#32 1 = true ∧
        GoesToTcm s.cfg 0x480000#32 1 0) ∧
    (let s := at_ 0x200#32 [(6#5, 0x3FFFFC#32), (7#5, 0xAABBCCDD#32)];
      storeShape s (.sw 6#5 7#5 0#12) = some ⟨0x3FFFFC#32, 4, 0xAABBCCDD#32, 4#32⟩ ∧ s.bpQuiet .store 0x3FFFFC#32 4 = true ∧
        GoesToExt s.cfg .store 0x3FFFFC#32 4) := by
  refine ⟨⟨rfl, ?_, ⟨?_, ?_, ?_, ?_, ?_⟩⟩, ⟨rfl, ?_, ⟨?_, ?_, ?_, ?_, ?_⟩⟩⟩ <;> decide

/-- MTIMECMP and MTIMECLKSET. -/
theorem witness_TimerStoreResults :
    (let s := at_ 0x200#32 [(6#5, 0x490000#32), (7#5, 0xFFFFFFFF#32)];
      storeShape s (.sw 6#5 7#5 8#12) = some ⟨0x490008#32, 4, 0xFFFFFFFF#32, 4#32⟩ ∧ s.bpQuiet .store 0x490008#32 4 = true ∧
        GoesToTimer s.cfg 0x490008#32 8) ∧
    (let s := at_ 0x200#32 [(2#5, 0x490000#32), (7#5, 0xFFFFFFFF#32)];
      storeShape s (.cSwsp 7#5 16#8) = some ⟨0x490010#32, 4, 0xFFFFFFFF#32, 2#32⟩ ∧ GoesToTimer s.cfg 0x490010#32 16) := by
  refine ⟨⟨rfl, ?_, ⟨?_, ?_, ?_, ?_⟩⟩, ⟨rfl, ⟨?_, ?_, ?_, ?_⟩⟩⟩ <;> decide

/-- Misaligned by one byte; a byte of the timer; the first address behind the external memory. -/
theorem witness_FailingAccessesRaise :
    (let s := at_ 0x200#32 [(6#5, 0x1001#32)];
      loadShape s (.lh 5#5 6#5 0#12) = some ⟨5#5, 0x1001#32, 2, .signed, 4#32⟩ ∧ s.bpQuiet .load 0x1001#32 2 = true ∧
        (0x1001#32 : Word).toNat % 2 ≠ 0 ∧ storeShape s (.sw 6#5 7#5 0#12) = some ⟨0x1001#32, 4, 0#32, 4#32⟩ ∧
        s.bpQuiet .store 0x1001#32 4 = true ∧ (0x1001#32 : Word).toNat % 4 ≠ 0) ∧
    (let s := at_ 0x200#32 [(6#5, 0x490000#32)];
      loadShape s (.lb 5#5 6#5 0#12) = some ⟨5#5, 0x490000#32, 1, .signed, 4#32⟩ ∧ GetsNoAnswer s.cfg .load 0x490000#32 1 ∧
        storeShape s (.sh 6#5 7#5 0#12) = some ⟨0x490000#32, 2, 0#32, 4#32⟩ ∧ GetsNoAnswer s.cfg .store 0x490000#32 2) ∧
    (let s := at_ 0x200#32 [(6#5, 0x400000#32)];
      loadShape s (.lw 5#5 6#5 0#12) = some ⟨5#5, 0x400000#32, 4, .unsigned, 4#32⟩ ∧ GetsNoAnswer s.cfg .load 0x400000#32 4 ∧
        GetsNoAnswer s.cfg .store 0x400000#32 4) := by
  refine ⟨⟨rfl, ?_, ?_, rfl, ?_, ?_⟩, ⟨rfl, ⟨?_, ?_⟩, rfl, ⟨?_, ?_⟩⟩, ⟨rfl, ⟨?_, ?_⟩, ⟨?_, ?_⟩⟩⟩ <;> decide

/-- Offset 0x14 of the timer, the first word behind a TCM of 32 KiB, a device. -/
theorem witness_UndefinedPlacesStopByName :
    (let s := at_ 0x200#32 [(6#5, 0x490014#32)];
      loadShape s (.lw 5#5 6#5 0#12) = some ⟨5#5, 0x490014#32, 4, .unsigned, 4#32⟩ ∧ s.bpQuiet .load 0x490014#32 4 = true ∧
        s.cfg.inTimer 0x490014#32 = true ∧ timerRegister (s.cfg.timerOffset 0x490014#32) = false) ∧
    (let s := (resetIn (fun c => { c with tcmSize := 32768 })).setReg 6#5 0x488000#32;
      storeShape s (.sw 6#5 7#5 0#12) = some ⟨0x488000#32, 4, 0#32, 4#32⟩ ∧ s.bpQuiet .store 0x488000#32 4 = true ∧
        s.cfg.inTimer 0x488000#32 = false ∧ s.cfg.inTcm 0x488000#32 = true ∧
        s.cfg.tcmSize < s.cfg.tcmOffset 0x488000#32 + 4) ∧
    (let s := (resetIn withDevice).setReg 6#5 0x40000FFC#32;
      loadShape s (.lw 5#5 6#5 0#12) = some ⟨5#5, 0x40000FFC#32, 4, .unsigned, 4#32⟩ ∧
        s.bpQuiet .load 0x40000FFC#32 4 = true ∧ s.cfg.inTimer 0x40000FFC#32 = false ∧
        s.cfg.inTcm 0x40000FFC#32 = false ∧ s.cfg.isDevice (0x40000FFC#32 : Word).toNat 4 = true ∧
        s.cfg.dataAccessible (0x40000FFC#32 : Word).toNat 4 .load = true ∧
        s.cfg.dataAccessible (0x40000FFC#32 : Word).toNat 4 .store = true) := by
  refine ⟨⟨rfl, ?_⟩, ⟨rfl, ?_⟩, ⟨rfl, ?_⟩⟩ <;> decide

/-- SH to the TCM and then LHU; SW to external memory and then C.LWSP. -/
theorem witness_LoadAfterStoreGivesStoredValue :
    (let s := at_ 0x200#32 [(6#5, 0x480002#32), (7#5, 0x1234#32)];
      let u := (s.storeTcm 2 2 0x1234#32).complete 4#32;
      storeShape s (.sh 6#5 7#5 0#12) = some ⟨0x480002#32, 2, 0x1234#32, 4#32⟩ ∧
        exec (.sh 6#5 7#5 0#12) s = .next u ∧
        loadShape u (.lhu 5#5 6#5 0#12) = some ⟨5#5, 0x480002#32, 2, .unsigned, 4#32⟩ ∧
        s.bpQuiet .store 0x480002#32 2 = true ∧ u.bpQuiet .load 0x480002#32 2 = true ∧
        GoesToTcm s.cfg 0x480002#32 2 2) ∧
    (let s := at_ 0x200#32 [(2#5, 0x3FFFFC#32), (7#5, 0x1234#32)];
      let u := (s.storeExt 0x3FFFFC 4 0x1234#32).complete 4#32;
      exec (.sw 2#5 7#5 0#12) s = .next u ∧
        loadShape u (.cLwsp 5#5 0#8) = some ⟨5#5, 0x3FFFFC#32, 4, .unsigned, 2#32⟩ ∧
        GoesToExt s.cfg .store 0x3FFFFC#32 4 ∧ GoesToExt s.cfg .load 0x3FFFFC#32 4) := by
  refine ⟨⟨rfl, rfl, rfl, ?_, ?_, ⟨?_, ?_, ?_, ?_, ?_⟩⟩, ⟨rfl, rfl, ⟨?_, ?_, ?_, ?_, ?_⟩, ⟨?_, ?_, ?_, ?_, ?_⟩⟩⟩ <;> decide

/-- A queued word that the slot names, at the reset vector; an empty queue; a word stored into the TCM, and FENCE.I. -/
theorem witness_FetchResults_words :
    (let s := { State.reset with fetchQueue := [(0x200#32, 0x73#32)], env := [⟨[], false, [(0x200#32, 0x73#32)]⟩] };
      s.fetchWord (wordAddr 0x200#32) 0x200#32 = .ok 0x73#32 ∧ (wordAddr 0x200#32, 0x73#32) ∈ s.fetchQueue ∧
        s.pc.toNat % 4 = 0 ∧ FetchReady s 0x200#32) := by
  refine ⟨rfl, ?_, ?_, ?_⟩ <;> (try unfold FetchReady) <;> decide

theorem witness_FenceResults :
    (let s := at_ 0x200#32 [(6#5, 0x480000#32), (7#5, 0x73#32)];
      let t := (s.storeTcm 0 4 0x73#32).complete 4#32;
      storeShape s (.sw 6#5 7#5 0#12) = some ⟨0x480000#32, 4, 0x73#32, 4#32⟩ ∧ s.bpQuiet .store 0x480000#32 4 = true ∧
        exec (.sw 6#5 7#5 0#12) s = .next t ∧ exec .fenceI t = .next { t.complete 4#32 with fetchQueue := [] } ∧
        GoesToTcm s.cfg 0x480000#32 4 0) ∧
    (let s := at_ 0x200#32 [];
      GoesToExt s.cfg .store 0x1000#32 4 ∧ s.cfg.unifiedExternalMemory = true ∧ FetchReady s 0x1000#32) ∧
    (let s := (resetIn (fun c => { c with unifiedExternalMemory := false })).setReg 6#5 0x1000#32;
      let t := (s.storeExt 0x1000 4 0#32).complete 4#32;
      storeShape s (.sw 6#5 7#5 0#12) = some ⟨0x1000#32, 4, 0#32, 4#32⟩ ∧ s.bpQuiet .store 0x1000#32 4 = true ∧
        exec (.sw 6#5 7#5 0#12) s = .next t ∧ exec .fenceI t = .next { t.complete 4#32 with fetchQueue := [] } ∧
        s.cfg.unifiedExternalMemory = false ∧ GoesToExt s.cfg .store 0x1000#32 4) := by
  refine ⟨⟨rfl, ?_, rfl, rfl, ⟨?_, ?_, ?_, ?_, ?_⟩⟩, ⟨⟨?_, ?_, ?_, ?_, ?_⟩, ?_, ?_⟩,
    ⟨rfl, ?_, rfl, rfl, ?_, ⟨?_, ?_, ?_, ?_, ?_⟩⟩⟩ <;>
    (try unfold FetchReady) <;> decide

theorem witness_TrapInstructionsTakeTheirExceptions :
    (State.reset.cfg.dbgcEn = true ∧ State.reset.dbgc.dmodeEnbl.brkpt = false) ∧
    (let s := { State.reset with dbgc := { Debug.reset with dmodeEnbl := ⟨false, false, true⟩ } };
      s.cfg.dbgcEn = true ∧ s.dbgc.dmodeEnbl.brkpt = true) := by decide

theorem witness_MretReturns :
    (let s := { State.reset with mepc := 0xFFFFFFFE#32 }; s.cfg.rvc = true) ∧
    (let s := { resetIn noC with mepc := 0xFFFFFFFC#32 }; s.cfg.rvc = false ∧ s.mepc.getLsbD 1 = false) ∧
    (let s := { resetIn noC with mepc := 0x202#32 }; s.cfg.rvc = false ∧ s.mepc.getLsbD 1 = true) := by decide

theorem witness_MretAfterTrapResumes :
    (let s := { State.reset with pc := 0xFFFFFFFE#32 }; s.cfg.alignPc s.pc = s.pc) ∧
    (let s := { resetIn noC with pc := 0xFFFFFFFC#32 }; s.cfg.alignPc s.pc = s.pc) := by decide

/-- The first and the last address of the map. -/
theorem witness_CsrReadFormsOnlyRead :
    csrAt State.reset.cfg 0x300#12 = some .mstatus ∧ csrAt State.reset.cfg 0xF14#12 = some .mhartid := by decide

theorem witness_CsrWritesReachWritableBitsOnly :
    csrAt State.reset.cfg 0x300#12 = some .mstatus ∧
      plainCsr State.reset.cfg .mstatus = some (0x00000088#32, 0x00001800#32) ∧
    csrAt (resetIn (fun c => { c with vectIrqEn := true })).cfg 0x305#12 = some .mtvec ∧
      plainCsr (resetIn (fun c => { c with vectIrqEn := true })).cfg .mtvec = some (0x3#32, 0x1C0#32) ∧
    csrAt State.reset.cfg 0x7E0#12 = some .mcounten ∧ plainCsr State.reset.cfg .mcounten = some (0x5#32, 0#32) ∧
      (31#5 : Reg) ≠ 0#5 := by decide

/-- The four IPIC forms; an address without a CSR; a read-only one; both with a source that is not x0. -/
theorem witness_CsrAccessRules :
    (csrAt State.reset.cfg 0xBF0#12 = some .ipicCisv ∧ Csr.isIpic .ipicCisv = true ∧
      csrAt State.reset.cfg 0xBF7#12 = some .ipicIcsr ∧ Csr.isIpic .ipicIcsr = true ∧ (1#5 : Reg) ≠ 0#5) ∧
    csrAt State.reset.cfg 0x302#12 = none ∧
    (csrAt State.reset.cfg 0xF11#12 = some .mvendorid ∧ (0xF11#12 : CsrAddr).extractLsb' 10 2 = 3#2) := by decide

theorem witness_WritesToConstantRegistersAreIgnored :
    csrAt State.reset.cfg 0x301#12 = some .misa ∧ csrAt State.reset.cfg 0x344#12 = some .mip ∧
      csrAt State.reset.cfg 0xBF0#12 = some .ipicCisv ∧ csrAt State.reset.cfg 0xBF3#12 = some .ipicIsvr := by decide

/-- The six forms that write, one of them at each of the four addresses. -/
theorem witness_CounterWritesReplaceOneHalf : State.reset.cfg.cntCsrsPresent = true ∧
    ((csrWriteShape State.reset (.csrrw 5#5 0xB00#12 0#5)).map CsrShape.addr = some 0xB00#12 ∧
      (csrWriteShape State.reset (.csrrwi 5#5 0xB80#12 31#5)).map CsrShape.addr = some 0xB80#12 ∧
      (csrWriteShape State.reset (.csrrs 5#5 0xB02#12 6#5)).map CsrShape.addr = some 0xB02#12 ∧
      (csrWriteShape State.reset (.csrrc 5#5 0xB82#12 6#5)).map CsrShape.addr = some 0xB82#12 ∧
      (csrWriteShape State.reset (.csrrsi 5#5 0xB00#12 1#5)).map CsrShape.addr = some 0xB00#12 ∧
      (csrWriteShape State.reset (.csrrci 5#5 0xB00#12 1#5)).map CsrShape.addr = some 0xB00#12) := by decide

/-- With and without the IPIC; and a cisv below 16. -/
theorem witness_ExternalInterruptPendingRule :
    (resetIn (fun c => { c with ipicEn := false })).cfg.ipicEn = false ∧ State.reset.cfg.ipicEn = true ∧
      ({ Ipic.reset with isv := 0x8000#16 } : Ipic).cisv = 15 := by decide

/-- Both forms, both values of IPIC_SOI_CLEARS_IP, a vector in service. -/
theorem witness_StartAndEndOfInterrupt : State.reset.cfg.ipicEn = true ∧ State.reset.cfg.ipicSoiClearsIp = false ∧
    (resetIn (fun c => { c with ipicSoiClearsIp := true })).cfg.ipicSoiClearsIp = true ∧
    (csrReplaceShape State.reset (.csrrw 5#5 0xBF5#12 0#5)).map CsrShape.addr = some 0xBF5#12 ∧
    (csrReplaceShape State.reset (.csrrwi 5#5 0xBF4#12 0#5)).map CsrShape.addr = some 0xBF4#12 ∧
    ({ Ipic.reset with isv := 0x8000#16 } : Ipic).cisv < 16 := by decide

/-- Nothing in service and vector 15 in service; a shape for each address; IPIC_ICSR with IM and INV kept and changed. -/
theorem witness_IpicRegisterWrites :
    State.reset.cfg.ipicEn = true ∧ State.reset.ipic.cisv = 16 ∧ ({ Ipic.reset with isv := 0x8000#16 } : Ipic).cisv < 16 ∧
    (csrReplaceShape State.reset (.csrrwi 5#5 0xBF2#12 31#5)).map CsrShape.addr = some 0xBF2#12 ∧
    (csrReplaceShape State.reset (.csrrwi 5#5 0xBF6#12 15#5)).map CsrShape.addr = some 0xBF6#12 ∧
    (csrReplaceShape State.reset (.csrrw 5#5 0xBF1#12 6#5)).map CsrShape.addr = some 0xBF1#12 ∧
    (csrReplaceShape State.reset (.csrrw 5#5 0xBF7#12 6#5)).map CsrShape.addr = some 0xBF7#12 ∧
    (let s := { at_ 0x200#32 [(6#5, 0x13#32), (7#5, 0x1E#32)] with ipic := { Ipic.reset with idx := 15#4 } };
      after (.csrrw 5#5 0xBF7#12 6#5) s (fun t => t.ipic.im == s.ipic.im && t.ipic.inv == s.ipic.inv) = true ∧
      after (.csrrw 5#5 0xBF7#12 7#5) s (fun t => t.ipic.im == 0x8000#16 && t.ipic.inv == 0x8000#16) = true) := by decide

theorem witness_LinesSetPendingBits :
    (let s := { State.reset with ipic := { Ipic.reset with im := 0x8000#16, ip := 0x8000#16 } };
      HostMove.apply (.irqLines 0x7FFF#16) s = .ok { s with pins := { s.pins with irqLines := 0x7FFF#16 } } ∧
        s.ipic.im.getLsbD 15 = true ∧ (s.ipic.pending s.cfg.ipicLevelIpLive s.ipicLines).getLsbD 15 = true) ∧
    Ipic.reset.im.getLsbD 15 = false ∧ ({ Ipic.reset with im := 0x8000#16 } : Ipic).im.getLsbD 15 = true := by decide

theorem witness_TimerDividesItsClock :
    Timer.reset.phase < Timer.reset.coef.toNat ∧ Timer.reset.en = true ∧ Timer.reset.clksel = true ∧
      ({ Timer.reset with phase := 99 } : Timer).phase < Timer.reset.coef.toNat ∧
      ({ Timer.reset with en := false, clksel := false } : Timer).clksel = false := by decide

/-- Breakpoint 0 matches every access with ACTION 1. -/
theorem witness_BreakpointMatchRaises :
    let s := withBp (everyAccess 1#3 false) (at_ 0x200#32 [(6#5, 0x1000#32)])
    s.dbgc.dmodeEnbl.brkpt = false ∧ s.brkm.bpISkip = false ∧ StrongestMatch s .exec s.pc 1 1#3 ∧
      loadShape s (.lw 5#5 6#5 0#12) = some ⟨5#5, 0x1000#32, 4, .unsigned, 4#32⟩ ∧ StrongestMatch s .load 0x1000#32 4 1#3 ∧
      storeShape s (.sw 6#5 7#5 0#12) = some ⟨0x1000#32, 4, 0#32, 4#32⟩ ∧ StrongestMatch s .store 0x1000#32 4 1#3 := by
  refine ⟨?_, ?_, ⟨?_, ?_, ?_, ?_⟩, rfl, ⟨?_, ?_, ?_, ?_⟩, rfl, ⟨?_, ?_, ?_, ?_⟩⟩ <;> decide

/-- The extended mask: a word store whose last byte alone meets the mask condition. -/
theorem witness_BreakpointMatchRaises_extended :
    let s := withBp { everyAccess 1#3 false with
      amasken := true, amaskext := true, loAddr := 0x1003#32, hiAddr := 0xFFFFFFFF#32, execen := false }
      (at_ 0x200#32 [(6#5, 0x1000#32)])
    storeShape s (.sw 6#5 7#5 0#12) = some ⟨0x1000#32, 4, 0#32, 4#32⟩ ∧ StrongestMatch s .store 0x1000#32 4 1#3 := by
  refine ⟨rfl, ⟨?_, ?_, ?_, ?_⟩⟩ <;> decide

/-- The same with ACTION 2. -/
theorem witness_BreakpointMatchEntersDebugMode :
    let s := withBp (everyAccess 2#3 false) (at_ 0x200#32 [(6#5, 0x1000#32)])
    s.brkm.bpISkip = false ∧ StrongestMatch s .exec s.pc 1 2#3 ∧ StrongestMatch s .load 0x1000#32 4 2#3 ∧
      StrongestMatch s .store 0x1000#32 4 2#3 := by
  refine ⟨?_, ⟨?_, ?_, ?_, ?_⟩, ⟨?_, ?_, ?_, ?_⟩, ⟨?_, ?_, ?_, ?_⟩⟩ <;> decide

/-- The same with ACTION 0 and DRYRUN, on accesses to external memory. -/
theorem witness_DryRunMatchOnlySetsMatched :
    let s := withBp (everyAccess 0#3 true) (at_ 0x200#32 [(6#5, 0x1000#32)])
    StrongestMatch s .exec s.pc 1 0#3 ∧ StrongestMatch s .load 0x1000#32 4 0#3 ∧ StrongestMatch s .store 0x1000#32 4 0#3 ∧
      GoesToExt s.cfg .load 0x1000#32 4 ∧ GoesToExt s.cfg .store 0x1000#32 4 := by
  refine ⟨⟨?_, ?_, ?_, ?_⟩, ⟨?_, ?_, ?_, ?_⟩, ⟨?_, ?_, ?_, ?_⟩, ⟨?_, ?_, ?_, ?_, ?_⟩, ⟨?_, ?_, ?_, ?_, ?_⟩⟩ <;> decide

/-- A selected breakpoint; a selection of none, which three breakpoints allow; the data registers; a shape for each
address. -/
theorem witness_BreakpointRegisterWrites :
    (State.reset.cfg.brkmEn = true ∧ State.reset.brkm.bps[State.reset.brkm.bpselect.toNat]? = some Breakpoint.reset ∧
      (State.reset.cfg.sup State.reset.brkm.bpselect.toNat).amask = true ∧ State.reset.brkm.mode = false) ∧
    (let s := resetIn (fun c => { c with bpNum := 3 });
      ({ s with brkm := { s.brkm with bpselect := 3#12 } } : State).brkm.bps[3]? = none) ∧
    (resetIn (fun c => { c with brkmDataCsrs := .readZero })).cfg.brkmDataCsrs = .readZero ∧
    ((csrWriteShape State.reset (.csrrw 5#5 0x7C0#12 6#5)).map CsrShape.addr = some 0x7C0#12 ∧
      (csrWriteShape State.reset (.csrrwi 5#5 0x7C4#12 6#5)).map CsrShape.addr = some 0x7C4#12 ∧
      (csrWriteShape State.reset (.csrrs 5#5 0x7C1#12 6#5)).map CsrShape.addr = some 0x7C1#12 ∧
      (csrWriteShape State.reset (.csrrc 5#5 0x7C6#12 6#5)).map CsrShape.addr = some 0x7C6#12 ∧
      (csrWriteShape State.reset (.csrrsi 5#5 0x7C7#12 6#5)).map CsrShape.addr = some 0x7C7#12) := by decide

/-- The second breakpoint selected, the form CSRRCI. -/
theorem witness_BreakpointAddressRegisters :
    (let s := { State.reset with brkm := { State.reset.brkm with bpselect := 1#12 } };
      s.cfg.brkmEn = true ∧ s.brkm.bps[s.brkm.bpselect.toNat]? = some Breakpoint.reset ∧
        (csrWriteShape s (.csrrw 5#5 0x7C2#12 6#5)).map CsrShape.addr = some 0x7C2#12 ∧
        (csrWriteShape s (.csrrci 5#5 0x7C3#12 31#5)).map CsrShape.addr = some 0x7C3#12) := by decide

theorem witness_CompressedImmediateResults : (31#5 : BitVec 5) ≠ 0#5 ∧ (1#5 : BitVec 5) ≠ 0#5 := by decide

theorem witness_DebuggerCommands :
    (let s := { State.reset with tapc := { Tapc.reset with ir := 8#4 } };
      s.cfg.dbgcEn = true ∧ s.tapc.ir = 0b1000#4 ∧ s.dbgc.dapContext = 0b0000#4) ∧
    (let s := { State.reset with tapc := { Tapc.reset with ir := 8#4 }, dbgc := { Debug.reset with dapContext := 1#4 } };
      s.tapc.ir = 0b1000#4 ∧ s.dbgc.dapContext = 0b0001#4 ∧ s.dbgc.dmode = false) ∧
    (let s := { State.reset with
        tapc := { Tapc.reset with ir := 8#4 }, dbgc := { Debug.reset with dapContext := 1#4, dmode := true } };
      s.tapc.ir = 0b1000#4 ∧ s.dbgc.dapContext = 0b0001#4 ∧ s.dbgc.dmode = true) := by decide

end Sys2Proof.Tests
end

section
/-! # Proofs of the family 00_scope: the moves of the host (O12, O15)

What a move of the host leaves: the debugger reaches its own registers, and no move reaches the configuration or a
memory. -/

namespace Sys2Proof.Machine

open Sys2Proof

/-! ### The debugger's moves -/

/-- What a scan can reach: the debug registers, the TAPC, DBG_SCRATCH and, by Halt, the wait state (R171 to R190). -/
def DebuggerFrame (s t : State) : Prop :=
  ∃ d p x w, t = { s with dbgc := d, tapc := p, dbgScratch := x, waiting := w }

theorem DebuggerFrame.refl (s : State) : DebuggerFrame s s := ⟨_, _, _, _, rfl⟩

theorem DebuggerFrame.trans {s t u : State} (hst : DebuggerFrame s t) (htu : DebuggerFrame t u) : DebuggerFrame s u := by
  obtain ⟨_, _, _, _, rfl⟩ := hst
  obtain ⟨_, _, _, _, rfl⟩ := htu
  exact ⟨_, _, _, _, rfl⟩

theorem State.halt_debuggerFrame (s : State) : DebuggerFrame s s.halt := by
  unfold State.halt
  split
  · exact .refl s
  · exact ⟨_, _, _, _, rfl⟩

theorem State.resume_debuggerFrame (s : State) : DebuggerFrame s s.resume := by
  unfold State.resume
  split
  · exact ⟨_, _, _, _, rfl⟩
  · exact .refl s

theorem State.dbgCtrl_debuggerFrame {s t : State} {v : Word} (h : s.dbgCtrl v = .ok t) : DebuggerFrame s t := by
  have hclear : DebuggerFrame s (if v.getLsbD 2 then s.stickyClear else s) := by
    split
    · exact ⟨_, _, _, _, rfl⟩
    · exact .refl s
  unfold State.dbgCtrl at h
  split at h
  · cases h
  · cases h
    split
    · exact hclear.trans (State.halt_debuggerFrame _)
    · split
      · exact hclear.trans (State.resume_debuggerFrame _)
      · exact hclear

theorem State.readHartDebug_debuggerFrame {s t : State} {index : Nat} (h : s.readHartDebug index = .ok t) :
    DebuggerFrame s t := by
  unfold State.readHartDebug at h
  split at h <;> cases h <;> exact ⟨_, _, _, _, rfl⟩

theorem State.writeHartDebug_debuggerFrame {s t : State} {index : Nat} {v : Word}
    (h : s.writeHartDebug index v = .ok t) : DebuggerFrame s t := by
  unfold State.writeHartDebug at h
  repeat' split at h
  all_goals cases h
  all_goals exact ⟨_, _, _, _, rfl⟩

theorem State.readCoreDebug_debuggerFrame {s t : State} {index : Nat} (h : s.readCoreDebug index = .ok t) :
    DebuggerFrame s t := by
  unfold State.readCoreDebug at h
  split at h <;> cases h <;> exact ⟨_, _, _, _, rfl⟩

theorem State.writeCoreDebug_debuggerFrame {s t : State} {index : Nat} {v : Word}
    (h : s.writeCoreDebug index v = .ok t) : DebuggerFrame s t := by
  unfold State.writeCoreDebug at h
  repeat' split at h
  all_goals cases h
  all_goals exact ⟨_, _, _, _, rfl⟩

theorem State.readCap_debuggerFrame {s t : State} {index : Nat} (h : s.readCap index = .ok t) : DebuggerFrame s t := by
  unfold State.readCap at h
  split at h <;> cases h <;> exact ⟨_, _, _, _, rfl⟩

theorem State.dbgCommand_debuggerFrame {s t : State} {opcode : Nat} {v : Word} (h : s.dbgCommand opcode v = .ok t) :
    DebuggerFrame s t := by
  unfold State.dbgCommand at h
  split at h
  · exact State.dbgCtrl_debuggerFrame h
  all_goals cases h
  all_goals exact ⟨_, _, _, _, rfl⟩

/-- Each command goes to the registers of one group (R185 to R188). -/
theorem State.dapCommand_debuggerFrame {s t : State} (h : s.dapCommand = .ok t) : DebuggerFrame s t := by
  simp only [State.dapCommand] at h
  split at h
  · split at h
    · exact State.writeHartDebug_debuggerFrame h
    · exact State.readHartDebug_debuggerFrame h
  split at h
  · exact State.dbgCommand_debuggerFrame h
  split at h
  · split at h
    · cases h
    · exact State.readCap_debuggerFrame h
  split at h
  · split at h
    · exact State.writeCoreDebug_debuggerFrame h
    · exact State.readCoreDebug_debuggerFrame h
  · cases h

theorem State.updateDr_debuggerFrame {s t : State} {v : BitVec 36} (h : s.updateDr v = .ok t) : DebuggerFrame s t := by
  unfold State.updateDr at h
  split at h
  · split at h <;> cases h
    exact ⟨_, _, _, _, rfl⟩
  split at h
  · exact DebuggerFrame.trans ⟨_, _, _, _, rfl⟩ (State.dapCommand_debuggerFrame h)
  repeat' split at h
  all_goals cases h
  all_goals exact ⟨_, _, _, _, rfl⟩

theorem State.scanDr_debuggerFrame {s t : State} {v : BitVec 36} (h : s.scanDr v = .ok t) : DebuggerFrame s t :=
  DebuggerFrame.trans ⟨_, _, _, _, rfl⟩ (State.updateDr_debuggerFrame h)

theorem State.scanIr_debuggerFrame {s t : State} {code : BitVec 4} (h : s.scanIr code = .ok t) : DebuggerFrame s t := by
  unfold State.scanIr at h
  split at h <;> cases h
  exact ⟨_, _, _, _, rfl⟩

/-! ### Every move -/

/-- The configuration and the three memories are the same. -/
structure SameConfigAndMemory (s t : State) : Prop where
  cfg : t.cfg = s.cfg
  tcm : t.tcm = s.tcm
  ext : t.ext = s.ext
  extI : t.extI = s.extI

theorem SameConfigAndMemory.refl (s : State) : SameConfigAndMemory s s := ⟨rfl, rfl, rfl, rfl⟩

theorem SameConfigAndMemory.trans {s t u : State} (hst : SameConfigAndMemory s t) (htu : SameConfigAndMemory t u) :
    SameConfigAndMemory s u :=
  ⟨htu.cfg.trans hst.cfg, htu.tcm.trans hst.tcm, htu.ext.trans hst.ext, htu.extI.trans hst.extI⟩

theorem SameConfigAndMemory.sameMemory {s t : State} (h : SameConfigAndMemory s t) : SameMemory s t :=
  .of_eq h.tcm h.ext h.extI

theorem DebuggerFrame.sameConfigAndMemory {s t : State} (h : DebuggerFrame s t) : SameConfigAndMemory s t := by
  obtain ⟨_, _, _, _, rfl⟩ := h
  exact ⟨rfl, rfl, rfl, rfl⟩

theorem State.prefetch_sameConfigAndMemory (s : State) (a : Word) : SameConfigAndMemory s (s.prefetch a) := by
  unfold State.prefetch
  split <;> exact ⟨rfl, rfl, rfl, rfl⟩

/-- A reset leaves the configuration and "the memories" (R570 to R572). -/
theorem State.holdReset_sameConfigAndMemory (s : State) : SameConfigAndMemory s s.holdReset := by
  unfold State.holdReset
  split
  · exact ⟨rfl, rfl, rfl, rfl⟩
  · exact .refl s

theorem HostMove.apply_sameConfigAndMemory {m : HostMove} {s t : State} (h : m.apply s = .ok t) :
    SameConfigAndMemory s t := by
  cases m with
  | prefetch a =>
    cases h
    exact State.prefetch_sameConfigAndMemory _ a
  | scanIr code =>
    simp only [HostMove.apply] at h
    split at h
    · exact (State.scanIr_debuggerFrame h).sameConfigAndMemory
    · cases h
      exact .refl s
  | scanDr v =>
    simp only [HostMove.apply] at h
    split at h
    · exact (State.scanDr_debuggerFrame h).sameConfigAndMemory
    · cases h
      exact .refl s
  | clk | rtc | irqLines | softIrq | extIrq | syncLines | sampleLines | rstN | tapReset =>
    cases h
    exact ⟨rfl, rfl, rfl, rfl⟩

/-! ### Schedules -/

/-- A schedule whose first move succeeds goes on behind it, with the reset that the move may have asserted in effect. -/
theorem applyMoves_cons_of_ok {m : HostMove} {s u : State} (h : m.apply s = .ok u) (rest : List HostMove) :
    applyMoves (m :: rest) s = applyMoves rest { u.holdReset with freeIdx := u.freeIdx + 1 } := by
  simp only [applyMoves, h]

/-- A schedule that succeeds began with a move that succeeded. -/
theorem applyMoves_cons_ok {m : HostMove} {rest : List HostMove} {s t : State} (h : applyMoves (m :: rest) s = .ok t) :
    ∃ u, m.apply s = .ok u ∧ applyMoves rest { u.holdReset with freeIdx := u.freeIdx + 1 } = .ok t := by
  cases hm : m.apply s with
  | error e => simp [applyMoves, hm] at h
  | ok u => exact ⟨u, rfl, applyMoves_cons_of_ok hm rest ▸ h⟩

theorem applyMoves_sameConfigAndMemory {moves : List HostMove} {s t : State} (h : applyMoves moves s = .ok t) :
    SameConfigAndMemory s t := by
  induction moves generalizing s with
  | nil =>
    cases h
    exact .refl _
  | cons m rest ih =>
    obtain ⟨u, hm, hrest⟩ := applyMoves_cons_ok h
    have hmove : SameConfigAndMemory s u := HostMove.apply_sameConfigAndMemory hm
    have hheld : SameConfigAndMemory s { u.holdReset with freeIdx := u.freeIdx + 1 } :=
      have hu := hmove.trans u.holdReset_sameConfigAndMemory
      ⟨hu.cfg, hu.tcm, hu.ext, hu.extI⟩
    exact hheld.trans (ih hrest)

end Sys2Proof.Machine
end

section
/-! # Proofs of the family 00_scope: reset (O12)

A state held in reset: it has the reset values, and neither the reset lines nor the index of the free values take
them away. -/

namespace Sys2Proof.Machine

open Sys2Proof

/-- The hart is in reset with its reset values (R571, R572). -/
structure HeldInReset (s : State) : Prop where
  values : AtReset s
  inReset : s.inReset = true

/-- The trap base of a legal configuration is a multiple of 4, so MTVEC reads back the whole of it (R26, R40). -/
theorem Config.mtvecBase_aligned {c : Config} (h : c.legal = true) : c.mtvecBase &&& 0xFFFFFFFC#32 = c.mtvecBase := by
  have hlow : c.mtvecBase.extractLsb' 0 2 = 0#2 := by
    simp only [Config.legal, Bool.and_eq_true, beq_iff_eq] at h
    obtain ⟨⟨⟨_, hmtvec⟩, _⟩, _⟩ := h
    exact hmtvec
  have hbit : ∀ i < 2, c.mtvecBase.getLsbD i = false := fun i hi => by
    simpa [BitVec.getLsbD_extractLsb', hi] using congrArg (·.getLsbD i) hlow
  have hmask : ∀ i < 32, 2 ≤ i → (0xFFFFFFFC#32).getLsbD i = true := by decide
  refine BitVec.eq_of_getLsbD_eq fun i hi => ?_
  rw [BitVec.getLsbD_and]
  by_cases hlt : i < 2
  · rw [hbit i hlt, Bool.false_and]
  · rw [hmask i hi (by omega), Bool.and_true]

theorem State.mtvecModeNow_zero {s : State} (h : s.mtvecMode = 0#2) : s.mtvecModeNow = 0#2 := by
  unfold State.mtvecModeNow
  split
  · exact h
  · rfl

theorem State.applyReset_mtvec {s : State} (h : s.cfg.legal = true) :
    s.applyReset.readCsr .mtvec = s.cfg.mtvecBase := by
  have hbase : s.applyReset.trapBase = s.cfg.mtvecBase := Config.mtvecBase_aligned h
  have hmode : s.applyReset.mtvecModeNow = 0#2 := State.mtvecModeNow_zero rfl
  simp [State.readCsr, State.mtvecWord, hbase, hmode]

/-- The registers made of fields read as in State.reset: none of their fields comes from the configuration (R62). -/
theorem State.applyReset_words (s : State) :
    s.applyReset.mstatusWord = 0x1880#32 ∧ s.applyReset.mieWord = 0#32 ∧ s.applyReset.mcauseWord = 0#32 ∧
      s.applyReset.mcountenWord = 0x5#32 := by
  change State.reset.mstatusWord = _ ∧ State.reset.mieWord = _ ∧ State.reset.mcauseWord = _ ∧
    State.reset.mcountenWord = _
  decide

/-- The divider's phase is no part of MTIMECLKSET (R103). -/
theorem Timer.reset_disturb_clkset (free : Nat) : (Timer.reset.disturb free).clkset = 0x30064#32 := by
  show Timer.reset.clkset = 0x30064#32
  decide

/-- After reset the divider divides by 100, so each of its phases is below 100 (R103, R571, U20). -/
theorem Timer.reset_disturb_phase (free : Nat) : (Timer.reset.disturb free).phase < 100 :=
  Nat.mod_lt free (by decide)

theorem State.applyReset_held {s : State} (h : s.cfg.legal = true) : HeldInReset s.applyReset := by
  obtain ⟨hmstatus, hmie, hmcause, hmcounten⟩ := s.applyReset_words
  exact ⟨{
    pc := rfl
    regs := fun r => by simp [State.reg, State.applyReset, State.resetWith]
    mstatus := hmstatus
    mie := hmie
    mtvec := State.applyReset_mtvec h
    mscratch := rfl
    mepc := BitVec.zero_and
    mcause := hmcause
    mtval := rfl
    mcycle := rfl
    minstret := rfl
    mtime := rfl
    mtimecmp := rfl
    clkset := Timer.reset_disturb_clkset _
    phase := Timer.reset_disturb_phase _
    dbgScratch := rfl
    mcounten := hmcounten
    awake := rfl
    queue := rfl
    runMode := rfl }, rfl⟩

/-- No reset value depends on the platform's levels or on the index of the free values. -/
theorem HeldInReset.of_pins {s : State} (h : HeldInReset s) (p : Pins) (n : Nat) :
    HeldInReset { s with pins := p, freeIdx := n } := by
  obtain ⟨hvalues, hin⟩ := h
  exact ⟨{ hvalues with pc := hvalues.pc }, hin⟩

/-- A state held in reset is held on, whether or not its reset source is still asserted. -/
theorem HeldInReset.holdReset {s : State} (hl : s.cfg.legal = true) (h : HeldInReset s) : HeldInReset s.holdReset := by
  unfold State.holdReset
  split
  · exact State.applyReset_held hl
  · exact h

theorem State.holdReset_of_asserted {s : State} (h : s.resetAsserted = true) : s.holdReset = s.applyReset := if_pos h

/-- A source that is asserted after the hold was asserted before it, so the hold took effect. -/
theorem State.holdReset_held {s : State} (hl : s.cfg.legal = true) (h : s.holdReset.resetAsserted = true) :
    HeldInReset s.holdReset := by
  by_cases hs : s.resetAsserted = true
  · exact State.holdReset_of_asserted hs ▸ State.applyReset_held hl
  · rw [State.holdReset, if_neg hs] at h
    exact absurd h hs

/-- Step 0 of R515. -/
theorem State.hartStep_of_asserted {s : State} (h : s.resetAsserted = true) : s.hartStep = .next s.applyReset := if_pos h

theorem State.resetAsserted_of_rstN {s : State} (h : s.pins.rstAsserted = true) : s.resetAsserted = true := by
  simp [State.resetAsserted, State.systemReset, h]

/-- One move with a reset source asserted after it. -/
theorem applyMoves_held {s t : State} {m : HostMove} (hl : s.cfg.legal = true) (h : applyMoves [m] s = .ok t)
    (ht : t.resetAsserted = true) : HeldInReset t := by
  obtain ⟨u, hm, hrest⟩ := applyMoves_cons_ok h
  cases hrest
  have hcfg : u.cfg = s.cfg := (HostMove.apply_sameConfigAndMemory hm).cfg
  have hheld : HeldInReset u.holdReset := State.holdReset_held (hcfg ▸ hl) ht
  exact hheld.of_pins _ _

/-- rst_n asserted and released between two steps of the hart. -/
theorem rstN_pulse_held {s : State} (hl : s.cfg.legal = true) :
    ∃ t, applyMoves [.rstN true, .rstN false] s = .ok t ∧ HeldInReset t := by
  let asserted : State := { s with pins := { s.pins with rstAsserted := true } }
  have hhold : asserted.holdReset = asserted.applyReset :=
    State.holdReset_of_asserted (State.resetAsserted_of_rstN rfl)
  have hfirst : HeldInReset asserted.holdReset := hhold ▸ State.applyReset_held hl
  have hcfg : asserted.holdReset.cfg = s.cfg := asserted.holdReset_sameConfigAndMemory.cfg
  have hreleased := hfirst.of_pins { asserted.holdReset.pins with rstAsserted := false } (s.freeIdx + 1)
  exact ⟨_, rfl, (hreleased.holdReset (hcfg ▸ hl)).of_pins _ _⟩

/-- Settles O12: a step under reset answers State.applyReset, and after a move or a pulse State.holdReset has already
put the state to the reset values. -/
theorem assertedResetHoldsResetValues : Obligations.AssertedResetHoldsResetValues := by
  refine ⟨fun s hl hr => ?_, fun s t m hl h ht => ?_, fun s hl => ?_⟩
  · have hheld : HeldInReset s.applyReset := State.applyReset_held hl
    exact ⟨_, State.hartStep_of_asserted hr, hheld.values, .of_eq rfl rfl rfl, rfl, rfl, hheld.inReset⟩
  · have hheld : HeldInReset t := applyMoves_held hl h ht
    exact ⟨hheld.values, (applyMoves_sameConfigAndMemory h).sameMemory, hheld.inReset⟩
  · obtain ⟨t, h, hheld⟩ := rstN_pulse_held hl
    exact ⟨t, h, hheld.values, (applyMoves_sameConfigAndMemory h).sameMemory, hheld.inReset⟩

end Sys2Proof.Machine
end

section
/-! # Proofs of the family 00_scope: the configuration (O15)

Nothing the hart does changes the configuration: the shared operations first, then each instruction by the operation
it ends in, then the parts of the step. -/

namespace Sys2Proof.Machine

open Sys2Proof

/-- A result whose next state, if there is one, has the configuration of `s`. -/
def KeepsConfig (s : State) (r : Result) : Prop := ∀ t, r = .next t → t.cfg = s.cfg

theorem KeepsConfig.next {s t : State} (h : t.cfg = s.cfg) : KeepsConfig s (.next t) := by
  rintro _ ⟨⟩
  exact h

theorem KeepsConfig.fault (s : State) (e : Fault) : KeepsConfig s (.fault e) := by
  rintro _ ⟨⟩

theorem KeepsConfig.refused (s : State) (e : Refusal) : KeepsConfig s (.refused e) := by
  rintro _ ⟨⟩

/-- What goes on from a state with the same configuration keeps it as well. -/
theorem KeepsConfig.of_cfg {s t : State} {r : Result} (h : t.cfg = s.cfg) (hr : KeepsConfig t r) : KeepsConfig s r :=
  fun u hu => (hr u hu).trans h

/-- The same of an operation that may end the instruction. -/
def AttemptKeepsConfig {α : Type} (s : State) : Attempt α → Prop
  | .done t _ => t.cfg = s.cfg
  | .ended r => KeepsConfig s r

/-! ### Results and traps -/

theorem State.finish_keepsConfig (s : State) (rd : Reg) (v len : Word) : KeepsConfig s (s.finish rd v len) := .next rfl

theorem State.raise_keepsConfig (s : State) (e : Cause) (info : Word) : KeepsConfig s (s.raise e info) := .next rfl

theorem State.breakpointEvent_keepsConfig (s : State) (info : Word) : KeepsConfig s (s.breakpointEvent info) := by
  rcases s.breakpointEvent_cases info with h | h <;> exact h ▸ .next rfl

theorem State.finishShiftC_keepsConfig (s : State) (rd : Reg) (shamt : BitVec 5) (v : Word) :
    KeepsConfig s (s.finishShiftC rd shamt v) := by
  unfold State.finishShiftC
  split
  · exact .refused s _
  · exact s.finish_keepsConfig rd v _

/-! ### Control transfer -/

theorem State.jumpLink_keepsConfig (s : State) (rd : Reg) (target link : Word) :
    KeepsConfig s (s.jumpLink rd target link) := .next rfl

theorem State.jumpChecked_keepsConfig (s : State) (rd : Reg) (target link : Word) :
    KeepsConfig s (s.jumpChecked rd target link) := by
  unfold State.jumpChecked
  split
  · exact s.raise_keepsConfig _ _
  · exact s.jumpLink_keepsConfig _ _ _

theorem State.branch_keepsConfig (s : State) (taken : Bool) (target : Word) : KeepsConfig s (s.branch taken target) := by
  unfold State.branch
  split
  · split
    · exact s.raise_keepsConfig _ _
    · exact .next rfl
  · exact .next rfl

theorem State.branchC_keepsConfig (s : State) (taken : Bool) (target : Word) :
    KeepsConfig s (s.branchC taken target) := by
  cases taken <;> exact .next rfl

theorem execMret_keepsConfig (s : State) : KeepsConfig s (execMret s) := by
  unfold execMret
  split
  · exact .refused s _
  · exact .next rfl

/-! ### Breakpoints -/

theorem State.bpReact_keepsConfig (s : State) (hits : List Bool) (a : Word) :
    AttemptKeepsConfig s (s.bpReact hits a) := by
  rcases s.bpReact_cases hits a with h | h | h | h <;> rw [h]
  · exact State.marked_cfg s hits
  · exact .of_cfg (State.marked_cfg s hits) (State.breakpointEvent_keepsConfig _ a)
  · exact KeepsConfig.next rfl
  · exact KeepsConfig.refused s _

theorem State.bpCheckData_keepsConfig (s : State) (k : AccessKind) (a : Word) (n : Nat) :
    AttemptKeepsConfig s (s.bpCheckData k a n) := by
  unfold State.bpCheckData
  split
  · rfl
  · exact s.bpReact_keepsConfig _ a

theorem State.bpSkipped_cfg (s : State) (hits : List Bool) : (s.bpSkipped hits).cfg = s.cfg := by
  simp only [State.bpSkipped]
  split <;> rfl

theorem State.bpCheckExec_keepsConfig (s : State) : AttemptKeepsConfig s s.bpCheckExec := by
  unfold State.bpCheckExec
  split
  · rfl
  split
  · exact s.bpSkipped_cfg _
  · exact s.bpReact_keepsConfig _ _

/-! ### Loads and stores -/

theorem State.memRead_keepsConfig (s : State) (a : Word) (n : Nat) : AttemptKeepsConfig s (s.memRead a n) := by
  have hcheck := s.bpCheckData_keepsConfig .load a n
  unfold State.memRead
  cases hb : s.bpCheckData .load a n with
  | ended r => rwa [hb] at hcheck
  | done t x =>
    have ht : t.cfg = s.cfg := by rwa [hb] at hcheck
    dsimp only
    cases hp : dataPlace t.cfg .load a n with
    | misaligned | noAnswer => exact KeepsConfig.of_cfg ht (t.raise_keepsConfig _ a)
    | timerHole | tcmBeyond => exact KeepsConfig.fault s _
    | device => exact KeepsConfig.refused s _
    | timer | tcm | ext => exact ht

theorem State.memWrite_keepsConfig (s : State) (a : Word) (n : Nat) (v : Word) :
    AttemptKeepsConfig s (s.memWrite a n v) := by
  have hcheck := s.bpCheckData_keepsConfig .store a n
  unfold State.memWrite
  cases hb : s.bpCheckData .store a n with
  | ended r => rwa [hb] at hcheck
  | done t x =>
    have ht : t.cfg = s.cfg := by rwa [hb] at hcheck
    dsimp only
    cases hp : dataPlace t.cfg .store a n with
    | misaligned | noAnswer => exact KeepsConfig.of_cfg ht (t.raise_keepsConfig _ a)
    | timerHole | tcmBeyond => exact KeepsConfig.fault s _
    | device => exact KeepsConfig.refused s _
    | timer | tcm | ext => exact ht

theorem State.load_keepsConfig (s : State) (rd : Reg) (a : Word) (n : Nat) (w : Widen) (len : Word) :
    KeepsConfig s (s.load rd a n w len) := by
  have hread := s.memRead_keepsConfig a n
  unfold State.load
  cases hm : s.memRead a n with
  | ended r => rwa [hm] at hread
  | done t v =>
    have ht : t.cfg = s.cfg := by rwa [hm] at hread
    exact .of_cfg ht (t.finish_keepsConfig rd _ len)

theorem State.store_keepsConfig (s : State) (a : Word) (n : Nat) (v len : Word) :
    KeepsConfig s (s.store a n v len) := by
  have hwrite := s.memWrite_keepsConfig a n v
  unfold State.store
  cases hm : s.memWrite a n v with
  | ended r => rwa [hm] at hwrite
  | done t x =>
    have ht : t.cfg = s.cfg := by rwa [hm] at hwrite
    exact .next ht

/-! ### CSR instructions -/

theorem State.bpWrite_cfg {s t : State} {f : Breakpoint → Breakpoint} (h : s.bpWrite f = .ok t) : t.cfg = s.cfg := by
  unfold State.bpWrite at h
  split at h <;> cases h
  rfl

/-- No CSR holds a bit of the configuration; MISA, which shows some, ignores the write (R36). -/
theorem State.writeCsr_cfg {s t : State} {c : Csr} {v : Word} (h : s.writeCsr c v = .ok t) : t.cfg = s.cfg := by
  cases c with
  | bpcontrol | bploaddr | bphiaddr | bpctrlext => exact State.bpWrite_cfg h
  | _ =>
    cases h
    rfl

theorem State.csrWriteBack_cfg {s t : State} {c : Csr} {v : Option Word} (h : s.csrWriteBack c v = .ok t) :
    t.cfg = s.cfg := by
  cases v with
  | none =>
    cases h
    rfl
  | some v => exact State.writeCsr_cfg h

theorem State.csrAccess_keepsConfig (s : State) (rd : Reg) (c : Csr) (w : CsrWrite) :
    KeepsConfig s (s.csrAccess rd c w) := by
  unfold State.csrAccess
  cases hw : s.csrWriteBack c (w.value (s.readCsr c)) with
  | error e => exact .refused s e
  | ok t =>
    have ht : t.cfg = s.cfg := State.csrWriteBack_cfg hw
    exact .next ht

theorem State.csrOp_keepsConfig (s : State) (rd : Reg) (a : CsrAddr) (w : CsrWrite) (inst : Word) :
    KeepsConfig s (s.csrOp rd a w inst) := by
  unfold State.csrOp
  split
  · exact s.raise_keepsConfig _ _
  split
  · exact s.raise_keepsConfig _ _
  split
  · exact .refused s _
  · exact s.csrAccess_keepsConfig _ _ _

/-! ### Every instruction -/

/-- Each instruction ends in one of the operations above. -/
theorem exec_keepsConfig (i : Instr) (s : State) : KeepsConfig s (exec i s) := by
  cases i with
  | lui | auipc | addi | slti | sltiu | xori | ori | andi | slli | srli | srai | add | sub | sll | slt | sltu | xor
  | srl | sra | or | and | mul | mulh | mulhsu | mulhu | div | divu | rem | remu | cAddi4spn | cAddi | cLi | cAddi16sp
  | cLui | cAndi | cSub | cXor | cOr | cAnd | cMv | cAdd => exact s.finish_keepsConfig _ _ _
  | cSrli | cSrai | cSlli => exact s.finishShiftC_keepsConfig _ _ _
  | jal | jalr => exact s.jumpChecked_keepsConfig _ _ _
  | cJal | cJalr => exact s.jumpLink_keepsConfig _ _ _
  | beq | bne | blt | bge | bltu | bgeu => exact s.branch_keepsConfig _ _
  | cBeqz | cBnez => exact s.branchC_keepsConfig _ _
  | lb | lh | lw | lbu | lhu | cLw | cLwsp => exact s.load_keepsConfig _ _ _ _ _
  | sb | sh | sw | cSw | cSwsp => exact s.store_keepsConfig _ _ _ _
  | csrrw | csrrs | csrrc | csrrwi | csrrsi | csrrci => exact s.csrOp_keepsConfig _ _ _ _
  | ecall | cIllegal => exact s.raise_keepsConfig _ _
  | ebreak | cEbreak => exact s.breakpointEvent_keepsConfig _
  | mret => exact execMret_keepsConfig s
  | fence | fenceI | wfi | cNop | cJ | cJr => exact .next rfl

/-! ### The fetch -/

/-- A fetch that stops is a fault or a refusal, never a next state (R239, U22). -/
theorem State.fetchWord_stop {s : State} {w tval : Word} {r : Result} (h : s.fetchWord w tval = .stop r) :
    KeepsConfig s r := by
  unfold State.fetchWord at h
  repeat' split at h
  all_goals cases h
  · exact .fault s _
  · exact .refused s _

theorem State.fetchHalf_stop {s : State} {a : Word} {r : Result} (h : s.fetchHalf a = .stop r) : KeepsConfig s r := by
  unfold State.fetchHalf at h
  cases hw : s.fetchWord (a &&& 0xFFFFFFFC#32) a with
  | ok v => simp [hw] at h
  | noAnswer t => simp [hw] at h
  | stop r' =>
    rw [hw] at h
    cases h
    exact State.fetchWord_stop hw

theorem State.fetch_stop {s : State} {r : Result} (h : s.fetch = .stop r) : KeepsConfig s r := by
  unfold State.fetch at h
  split at h
  · cases h
  · next hlo =>
    cases h
    exact State.fetchHalf_stop hlo
  split at h
  · cases h
  split at h
  · cases h
  · next hhi =>
    cases h
    exact State.fetchHalf_stop hhi
  · cases h

/-! ### The step -/

theorem State.runParcel_keepsConfig (s : State) (p : Parcel) : KeepsConfig s (s.runParcel p) := by
  unfold State.runParcel
  split
  · exact exec_keepsConfig _ s
  · split
    · exact .refused s _
    · exact s.raise_keepsConfig _ _
  · exact s.raise_keepsConfig _ _

theorem State.runFetched_keepsConfig (s : State) (p : Parcel) : KeepsConfig s (s.runFetched p) := by
  unfold State.runFetched
  split
  · exact s.raise_keepsConfig _ _
  · exact s.runParcel_keepsConfig p

theorem State.fetchAndRun_keepsConfig (s : State) : KeepsConfig s s.fetchAndRun := by
  unfold State.fetchAndRun
  cases hf : s.fetch with
  | noAnswer tval => exact s.raise_keepsConfig _ _
  | stop r => exact State.fetch_stop hf
  | ok p => exact s.runFetched_keepsConfig p

theorem State.instrStep_keepsConfig (s : State) : KeepsConfig s s.instrStep := by
  have hcheck := s.bpCheckExec_keepsConfig
  unfold State.instrStep
  cases hb : s.bpCheckExec with
  | ended r => rwa [hb] at hcheck
  | done t x =>
    have ht : t.cfg = s.cfg := by rwa [hb] at hcheck
    exact .of_cfg ht t.fetchAndRun_keepsConfig

theorem State.afterInstr_cfg (t : State) : t.afterInstr.cfg = t.cfg := by
  unfold State.afterInstr
  split
  · split <;> rfl
  · rfl

theorem State.wake_cfg (s : State) : s.wake.cfg = s.cfg := by
  unfold State.wake
  split <;> rfl

theorem KeepsConfig.mapNext {s : State} {r : Result} {f : State → State} (hf : ∀ t, (f t).cfg = t.cfg)
    (h : KeepsConfig s r) : KeepsConfig s (mapNext r f) := by
  cases r with
  | next t => exact .next ((hf t).trans (h t rfl))
  | fault e => exact .fault s e
  | refused e => exact .refused s e

theorem State.runMode_keepsConfig (s : State) : KeepsConfig s s.runMode := by
  unfold State.runMode
  split
  · exact .next rfl
  split
  · exact .next rfl
  split
  · exact .next rfl
  · exact (KeepsConfig.of_cfg s.wake_cfg s.wake.instrStep_keepsConfig).mapNext State.afterInstr_cfg

theorem State.hartStep_keepsConfig (s : State) : KeepsConfig s s.hartStep := by
  unfold State.hartStep
  split
  · exact .next rfl
  split
  · split
    · exact .next rfl
    · exact .of_cfg rfl (State.runMode_keepsConfig _)
  · exact s.runMode_keepsConfig

theorem State.hostPhase_keepsConfig (t : State) (moves : List HostMove) : KeepsConfig t (t.hostPhase moves) := by
  simp only [State.hostPhase]
  split
  · exact .refused t _
  · next hmoves => exact .next (applyMoves_sameConfigAndMemory hmoves).cfg

theorem State.machineStep_keepsConfig (s : State) : KeepsConfig s s.machineStep := by
  have hhart := s.hartStep_keepsConfig
  unfold State.machineStep
  split
  · cases hs : s.hartStep with
    | next t => exact .of_cfg (hhart t hs) (t.hostPhase_keepsConfig _)
    | fault e => exact .fault s e
    | refused e => exact .refused s e
  · exact .refused s _

/-- Settles O15: the hart's step and the host's moves each keep the configuration. -/
theorem noStepChangesTheConfiguration : Obligations.NoStepChangesTheConfiguration :=
  fun s t h => s.machineStep_keepsConfig t h

end Sys2Proof.Machine
end

section
/-! # Proofs of the family 10_state: what the decoder gives (O14)

Every instruction that the decoder gives is well-formed: its offsets are even, so control transfers keep the pc
aligned. -/

namespace Sys2Proof

/-! ### The immediates -/

/-- Below the place of a field there are zeros. -/
theorem getElem_put_of_lt {n w lo i : Nat} (v : BitVec n) (hi : i < w) (h : i < lo) :
    (put lo v : BitVec w)[i] = false := by
  simp [put, h]

theorem immBOf_even (w : Word) : (immBOf w)[0] = false := by
  simp [immBOf, getElem_put_of_lt]

theorem immJOf_even (w : Word) : (immJOf w)[0] = false := by
  simp [immJOf, getElem_put_of_lt]

theorem immCjOf_even (h : Half) : (immCjOf h)[0] = false := by
  simp [immCjOf, getElem_put_of_lt]

theorem immCbOf_even (h : Half) : (immCbOf h)[0] = false := by
  simp [immCbOf, getElem_put_of_lt]

/-- A field of zeros, bit by bit. -/
theorem extractLsb'_zero_iff {n k : Nat} (v : BitVec n) :
    v.extractLsb' 0 k = 0#k ↔ ∀ i < k, v.getLsbD i = false := by
  constructor
  · intro h i hi
    simpa [hi] using congrArg (·.getLsbD i) h
  · intro h
    refine BitVec.eq_of_getLsbD_eq fun i hi => ?_
    simp [hi, h i hi]

theorem immCiwOf_scaled (h : Half) : (immCiwOf h).extractLsb' 0 2 = 0#2 := by
  refine (extractLsb'_zero_iff _).mpr fun i hi => ?_
  simp (disch := omega) [immCiwOf, getElem_put_of_lt]

theorem immClOf_scaled (h : Half) : (immClOf h).extractLsb' 0 2 = 0#2 := by
  refine (extractLsb'_zero_iff _).mpr fun i hi => ?_
  simp (disch := omega) [immClOf, getElem_put_of_lt]

theorem immC16spOf_scaled (h : Half) : (immC16spOf h).extractLsb' 0 4 = 0#4 := by
  refine (extractLsb'_zero_iff _).mpr fun i hi => ?_
  simp (disch := omega) [immC16spOf, getElem_put_of_lt]

theorem immClwspOf_scaled (h : Half) : (immClwspOf h).extractLsb' 0 2 = 0#2 := by
  refine (extractLsb'_zero_iff _).mpr fun i hi => ?_
  simp (disch := omega) [immClwspOf, getElem_put_of_lt]

theorem immCswspOf_scaled (h : Half) : (immCswspOf h).extractLsb' 0 2 = 0#2 := by
  refine (extractLsb'_zero_iff _).mpr fun i hi => ?_
  simp (disch := omega) [immCswspOf, getElem_put_of_lt]

/-- C.ADDI16SP's immediate has the bits of the CI immediate, so it is zero only where that is. -/
theorem immC16spOf_ne_zero {h : Half} (hci : immCIOf h ≠ 0#6) : immC16spOf h ≠ 0#10 := by
  intro hz
  apply hci
  have hbit : ∀ k, (immC16spOf h).getLsbD k = false := by simp [hz]
  have h4 := hbit 4
  have h5 := hbit 5
  have h6 := hbit 6
  have h7 := hbit 7
  have h8 := hbit 8
  have h9 := hbit 9
  simp [immC16spOf, put] at h4 h5 h6 h7 h8 h9
  refine BitVec.eq_of_getLsbD_eq fun i hi => ?_
  interval_cases i <;> simp [immCIOf, put, *]

/-! ### The decoder -/

theorem decodeBranch_wf {w : Word} {i : Instr} (h : decodeBranch w = .ok i) : i.wf = true := by
  unfold decodeBranch at h
  repeat' split at h
  all_goals cases h
  all_goals simp [Instr.wf, immBOf_even]

theorem decodeLoad_wf {w : Word} {i : Instr} (h : decodeLoad w = .ok i) : i.wf = true := by
  unfold decodeLoad at h
  repeat' split at h
  all_goals cases h
  all_goals rfl

theorem decodeStore_wf {w : Word} {i : Instr} (h : decodeStore w = .ok i) : i.wf = true := by
  unfold decodeStore at h
  repeat' split at h
  all_goals cases h
  all_goals rfl

theorem decodeOpImm_wf {w : Word} {i : Instr} (h : decodeOpImm w = .ok i) : i.wf = true := by
  unfold decodeOpImm at h
  repeat' split at h
  all_goals cases h
  all_goals rfl

theorem decodeOpBase_wf {w : Word} {i : Instr} (h : decodeOpBase w = .ok i) : i.wf = true := by
  unfold decodeOpBase at h
  repeat' split at h
  all_goals cases h
  all_goals rfl

theorem decodeOpMul_wf {w : Word} {i : Instr} (h : decodeOpMul w = .ok i) : i.wf = true := by
  unfold decodeOpMul at h
  repeat' split at h
  all_goals cases h
  all_goals rfl

theorem decodeOp_wf {w : Word} {i : Instr} (h : decodeOp w = .ok i) : i.wf = true := by
  unfold decodeOp at h
  split at h
  · exact decodeOpBase_wf h
  split at h
  · exact decodeOpMul_wf h
  repeat' split at h
  all_goals cases h
  all_goals rfl

theorem decodeFence_wf {w : Word} {i : Instr} (h : decodeFence w = .ok i) : i.wf = true := by
  unfold decodeFence at h
  repeat' split at h
  all_goals cases h
  all_goals rfl

theorem decodeSystem_wf {w : Word} {i : Instr} (h : decodeSystem w = .ok i) : i.wf = true := by
  unfold decodeSystem at h
  repeat' split at h
  all_goals cases h
  all_goals rfl

theorem decode32_wf {w : Word} {i : Instr} (h : decode32 w = .ok i) : i.wf = true := by
  unfold decode32 at h
  split at h
  · cases h; rfl
  split at h
  · cases h; rfl
  split at h
  · cases h; simp [Instr.wf, immJOf_even]
  split at h
  · split at h <;> cases h
    rfl
  split at h
  · exact decodeBranch_wf h
  split at h
  · exact decodeLoad_wf h
  split at h
  · exact decodeStore_wf h
  split at h
  · exact decodeOpImm_wf h
  split at h
  · exact decodeOp_wf h
  split at h
  · exact decodeFence_wf h
  split at h
  · exact decodeSystem_wf h
  · cases h

theorem decodeQ0_wf {h : Half} {i : Instr} (hi : decodeQ0 h = .ok i) : i.wf = true := by
  unfold decodeQ0 at hi
  repeat' split at hi
  all_goals cases hi
  all_goals simp [Instr.wf, immCiwOf_scaled, immClOf_scaled, *]

theorem decodeQ1Arith_wf {h : Half} {i : Instr} (hi : decodeQ1Arith h = .ok i) : i.wf = true := by
  unfold decodeQ1Arith at hi
  repeat' split at hi
  all_goals cases hi
  all_goals rfl

theorem decodeQ1_wf {h : Half} {i : Instr} (hi : decodeQ1 h = .ok i) : i.wf = true := by
  unfold decodeQ1 at hi
  split at hi
  · repeat' split at hi
    all_goals cases hi
    all_goals simp [Instr.wf, *]
  split at hi
  · cases hi; simp [Instr.wf, immCjOf_even]
  split at hi
  · cases hi; rfl
  split at hi
  · split at hi
    · cases hi
    · next hci =>
      split at hi <;> cases hi
      · simp [Instr.wf, immC16spOf_scaled, immC16spOf_ne_zero hci]
      · simp [Instr.wf, *]
  split at hi
  · exact decodeQ1Arith_wf hi
  repeat' split at hi
  all_goals cases hi
  all_goals simp [Instr.wf, immCjOf_even, immCbOf_even]

theorem decodeQ2_wf {h : Half} {i : Instr} (hi : decodeQ2 h = .ok i) : i.wf = true := by
  unfold decodeQ2 at hi
  repeat' split at hi
  all_goals cases hi
  all_goals simp [Instr.wf, immClwspOf_scaled, immCswspOf_scaled, *]

theorem decode16_wf {h : Half} {i : Instr} (hi : decode16 h = .ok i) : i.wf = true := by
  unfold decode16 at hi
  split at hi
  · exact decodeQ0_wf hi
  split at hi
  · exact decodeQ1_wf hi
  split at hi
  · exact decodeQ2_wf hi
  · cases hi

/-- What the decoder gives is well-formed (R262, R273). -/
theorem decodeParcel_wf {p : Parcel} {i : Instr} (h : decodeParcel p = .ok i) : i.wf = true := by
  cases p with
  | c16 half => exact decode16_wf h
  | c32 w => exact decode32_wf h

end Sys2Proof
end

section
/-! # Proofs of the family 10_state: the alignment of the pc (O14)

Which addresses meet the instruction alignment of R226, and that control transfers, traps and the next instruction's
address meet it. -/

namespace Sys2Proof.Machine

open Sys2Proof

/-! ### Aligned addresses -/

/-- The address meets the instruction alignment of the configuration (R226). -/
def AlignedIn (c : Config) (a : Word) : Prop := c.alignPc a = a

theorem and_even_mask_iff (a : Word) : a &&& 0xFFFFFFFE#32 = a ↔ a.getLsbD 0 = false := by
  constructor
  · intro h
    rw [← h]
    simp
  · intro h
    refine BitVec.eq_of_getLsbD_eq fun i hi => ?_
    rw [BitVec.getLsbD_and]
    cases i with
    | zero => rw [h]; rfl
    | succ i =>
      have hmask : ∀ j < 31, (0xFFFFFFFE#32).getLsbD (j + 1) = true := by decide
      rw [hmask i (by omega), Bool.and_true]

theorem and_word_mask_iff (a : Word) : a &&& 0xFFFFFFFC#32 = a ↔ a.getLsbD 0 = false ∧ a.getLsbD 1 = false := by
  constructor
  · intro h
    rw [← h]
    simp
  · rintro ⟨h0, h1⟩
    refine BitVec.eq_of_getLsbD_eq fun i hi => ?_
    rw [BitVec.getLsbD_and]
    match i with
    | 0 => rw [h0]; rfl
    | 1 => rw [h1]; rfl
    | i + 2 =>
      have hmask : ∀ j < 30, (0xFFFFFFFC#32).getLsbD (j + 2) = true := by decide
      rw [hmask i (by omega), Bool.and_true]

/-- Aligned: even, and without the C extension a multiple of 4. -/
theorem alignedIn_iff {c : Config} {a : Word} :
    AlignedIn c a ↔ a.getLsbD 0 = false ∧ (c.rvc = false → a.getLsbD 1 = false) := by
  unfold AlignedIn Config.alignPc
  cases c.rvc
  · simp [and_word_mask_iff]
  · simp [and_even_mask_iff]

theorem alignedIn_of_rvc {c : Config} {a : Word} (hc : c.rvc = true) (h : a.getLsbD 0 = false) : AlignedIn c a :=
  alignedIn_iff.mpr ⟨h, by simp [hc]⟩

/-- A multiple of 4 is aligned in every configuration. -/
theorem alignedIn_of_multiple {c : Config} {a : Word} (h : a.setWidth 2 = 0#2) : AlignedIn c a := by
  have hbit : ∀ i < 2, a.getLsbD i = false := fun i hi => by
    simpa [hi] using congrArg (·.getLsbD i) h
  exact alignedIn_iff.mpr ⟨hbit 0 (by omega), fun _ => hbit 1 (by omega)⟩

theorem alignedIn_alignPc (c : Config) (a : Word) : AlignedIn c (c.alignPc a) := by
  rw [alignedIn_iff]
  unfold Config.alignPc
  cases c.rvc <;> simp

/-! ### Sums -/

/-- The lowest bit of a sum. -/
theorem getLsbD_zero_add (a b : Word) : (a + b).getLsbD 0 = (a.getLsbD 0 ^^ b.getLsbD 0) := by
  simp [BitVec.getElem_add]

/-- A multiple of 4 added leaves the alignment as it was. -/
theorem AlignedIn.add_multiple {c : Config} {a b : Word} (h : AlignedIn c a) (hb : b.setWidth 2 = 0#2) :
    AlignedIn c (a + b) := by
  have hlow : (a + b).setWidth 2 = a.setWidth 2 := by
    rw [BitVec.setWidth_add _ _ (by omega), hb, BitVec.add_zero]
  have hbit : ∀ i < 2, (a + b).getLsbD i = a.getLsbD i := fun i hi => by
    simpa [hi] using congrArg (·.getLsbD i) hlow
  rw [alignedIn_iff] at h ⊢
  rwa [hbit 0 (by omega), hbit 1 (by omega)]

theorem AlignedIn.add_four {c : Config} {a : Word} (h : AlignedIn c a) : AlignedIn c (a + 4#32) :=
  h.add_multiple rfl

/-- An even offset keeps the pc even. -/
theorem AlignedIn.add_even {c : Config} {a b : Word} (h : AlignedIn c a) (hb : b.getLsbD 0 = false) :
    (a + b).getLsbD 0 = false := by
  rw [getLsbD_zero_add, (alignedIn_iff.mp h).1, hb, Bool.xor_false]

theorem sext_even {n : Nat} {v : BitVec n} (hn : 0 < n) (h : v.getLsbD 0 = false) : (sext v).getLsbD 0 = false := by
  simpa [sext, BitVec.getElem_signExtend, hn] using h

theorem getLsbD_even_mask (a : Word) : (a &&& 0xFFFFFFFE#32).getLsbD 0 = false := by simp

/-! ### Jumps and traps -/

/-- A target that passed the check of R330 is aligned once it is even. -/
theorem State.alignedIn_of_checked {s : State} {target : Word} (heven : target.getLsbD 0 = false)
    (h : s.misalignedTarget target = false) : AlignedIn s.cfg target := by
  refine alignedIn_iff.mpr ⟨heven, fun hc => ?_⟩
  simpa [State.misalignedTarget, hc] using h

theorem State.trapBase_multiple (s : State) : s.trapBase.setWidth 2 = 0#2 := by
  refine BitVec.eq_of_getLsbD_eq fun i hi => ?_
  interval_cases i <;> simp [State.trapBase]

theorem four_mul_multiple (v : Word) : (4#32 * v).setWidth 2 = 0#2 := by
  rw [BitVec.setWidth_mul _ _ (by omega)]
  exact BitVec.zero_mul

/-- Every trap target is aligned, that of a mode without a stated one too (R521, U8). -/
theorem State.trapTarget_aligned (s : State) (int : Bool) (code : BitVec 4) :
    AlignedIn s.cfg (s.trapTarget int code) := by
  have hbase : AlignedIn s.cfg s.trapBase := alignedIn_of_multiple s.trapBase_multiple
  unfold State.trapTarget
  split
  · exact hbase
  split
  · split
    · exact hbase.add_multiple (four_mul_multiple _)
    · exact hbase
  · exact alignedIn_alignPc _ _

end Sys2Proof.Machine
end

section
/-! # Proofs of the family 10_state: how an instruction ends (O14, O16)

What an instruction that is no CSR instruction can leave, said once: it completes, or it stops with an exception or in
Debug-Mode. Its next pc is aligned when the configuration has the instruction and the pc was. -/

namespace Sys2Proof

/-- The six CSR instructions. -/
def Instr.isCsr : Instr → Bool
  | .csrrw _ _ _ | .csrrs _ _ _ | .csrrc _ _ _ | .csrrwi _ _ _ | .csrrsi _ _ _ | .csrrci _ _ _ => true
  | _ => false

theorem Instr.rvc_of_existsIn {i : Instr} {c : Config} (hi : i.ext = .compressed) (h : i.existsIn c = true) :
    c.rvc = true := by
  simp only [Instr.existsIn, hi, Bool.and_eq_true] at h
  exact h.1

end Sys2Proof

namespace Sys2Proof.Machine

open Sys2Proof

/-! ### The ways to end -/

/-- `P` holds of the next state of a result, if there is one. -/
def ResultMeets (P : State → Prop) (r : Result) : Prop := ∀ t, r = .next t → P t

theorem ResultMeets.next {P : State → Prop} {t : State} (h : P t) : ResultMeets P (.next t) := by
  rintro _ ⟨⟩
  exact h

theorem ResultMeets.fault {P : State → Prop} (e : Fault) : ResultMeets P (.fault e) := by
  rintro _ ⟨⟩

theorem ResultMeets.refused {P : State → Prop} (e : Refusal) : ResultMeets P (.refused e) := by
  rintro _ ⟨⟩

theorem ResultMeets.mono {P Q : State → Prop} {r : Result} (h : ResultMeets P r) (hPQ : ∀ t, P t → Q t) :
    ResultMeets Q r := fun t ht => hPQ t (h t ht)

theorem ResultMeets.mapNext {P : State → Prop} {r : Result} {f : State → State} (hr : ResultMeets P r)
    (hf : ∀ t, P t → P (f t)) : ResultMeets P (mapNext r f) := by
  cases r with
  | next t => exact .next (hf t (hr t rfl))
  | fault e => exact .fault e
  | refused e => exact .refused e

/-- `P` holds where an operation goes on, and `Q` of the next state where it ends the instruction. -/
def AttemptMeets {α : Type} (P Q : State → Prop) : Attempt α → Prop
  | .done t _ => P t
  | .ended r => ResultMeets Q r

/-- The breakpoint check let the access through, setting MATCHED bits at most (R545). -/
inductive Checked (s : State) : State → Prop
  | quiet : Checked s s
  | marked (hits : List Bool) : Checked s (s.marked hits)

/-- The instruction ended without completing: an exception at its own address, or entry to Debug-Mode (R482, R555). -/
inductive Stopped (s : State) : State → Prop
  | trap {u : State} (hu : Checked s u) (code : BitVec 4) (tval : Word) : Stopped s (u.trapEntry false code u.pc tval)
  | debug {u : State} (hu : Checked s u) (e : DebugEntry) : Stopped s (u.enterDebug e)

/-- A store has been made (R244). -/
inductive Stored (s : State) : State → Prop
  | tcm {u : State} (hu : Checked s u) (off n : Nat) (v : Word) : Stored s (u.storeTcm off n v)
  | ext {u : State} (hu : Checked s u) (a n : Nat) (v : Word) : Stored s (u.storeExt a n v)
  | timer {u : State} (hu : Checked s u) (off : Nat) (v : Word) : Stored s (u.storeTimer off v)

/-- The address at which instruction `i` goes on is aligned, when the pc was and the configuration has `i` (R226). -/
def GoesOnAt (i : Instr) (s : State) (a : Word) : Prop :=
  i.wf = true → i.existsIn s.cfg = true → AlignedIn s.cfg s.pc → AlignedIn s.cfg a

/-- What an instruction that is no CSR instruction can leave. -/
inductive InstrEnd (i : Instr) (s : State) : State → Prop
  | result {u : State} (hu : Checked s u) (rd : Reg) (v a : Word) (ha : GoesOnAt i s a) :
    InstrEnd i s ((u.setReg rd v).jumpTo a)
  | flow (a : Word) (ha : GoesOnAt i s a) : InstrEnd i s (s.jumpTo a)
  | stored {u : State} (hu : Stored s u) (a : Word) (ha : GoesOnAt i s a) : InstrEnd i s (u.jumpTo a)
  | queueEmptied (a : Word) (ha : GoesOnAt i s a) : InstrEnd i s ({ s with fetchQueue := [] }.jumpTo a)
  | waited (w : Bool) (a : Word) (ha : GoesOnAt i s a) : InstrEnd i s { s.jumpTo a with waiting := w }
  | returned (hi : i = .mret) (ha : GoesOnAt i s (s.mepc &&& 0xFFFFFFFE#32)) : InstrEnd i s s.trapReturn
  | stopped {t : State} (ht : Stopped s t) : InstrEnd i s t

section

variable {i : Instr} (s : State)

/-! ### Results and traps -/

theorem State.finish_ends (rd : Reg) (v len : Word) (h : GoesOnAt i s (s.pc + len)) :
    ResultMeets (InstrEnd i s) (s.finish rd v len) := .next (.result .quiet rd v _ h)

theorem State.finishShiftC_ends (rd : Reg) (shamt : BitVec 5) (v : Word) (h : GoesOnAt i s (s.pc + 2#32)) :
    ResultMeets (InstrEnd i s) (s.finishShiftC rd shamt v) := by
  by_cases hz : shamt = 0#5
  · exact (s.finishShiftC_eq rd shamt v).1 hz ▸ .refused _
  · exact (s.finishShiftC_eq rd shamt v).2 hz ▸ s.finish_ends rd v _ h

theorem State.raise_stops (e : Cause) (info : Word) : ResultMeets (Stopped s) (s.raise e info) :=
  .next (.trap .quiet _ _)

theorem State.breakpointEvent_stops {s u : State} (hu : Checked s u) (info : Word) :
    ResultMeets (Stopped s) (u.breakpointEvent info) := by
  rcases u.breakpointEvent_cases info with h | h
  · exact h ▸ .next (.trap hu _ _)
  · exact h ▸ .next (.debug hu _)

theorem ResultMeets.stopped {s : State} {r : Result} (h : ResultMeets (Stopped s) r) : ResultMeets (InstrEnd i s) r :=
  h.mono fun _ => .stopped

/-! ### Control transfer -/

theorem State.jumpLink_ends (rd : Reg) (target link : Word) (h : GoesOnAt i s target) :
    ResultMeets (InstrEnd i s) (s.jumpLink rd target link) := .next (.result .quiet rd link target h)

theorem State.jumpChecked_ends (rd : Reg) (target link : Word)
    (h : s.misalignedTarget target = false → GoesOnAt i s target) :
    ResultMeets (InstrEnd i s) (s.jumpChecked rd target link) := by
  unfold State.jumpChecked
  split
  · exact (s.raise_stops _ _).stopped
  · next hc => exact s.jumpLink_ends _ _ _ (h (by simpa using hc))

theorem State.branch_ends (taken : Bool) (target : Word) (h : s.misalignedTarget target = false → GoesOnAt i s target)
    (hnext : GoesOnAt i s (s.pc + 4#32)) : ResultMeets (InstrEnd i s) (s.branch taken target) := by
  unfold State.branch
  split
  · split
    · exact (s.raise_stops _ _).stopped
    · next hc => exact .next (.flow _ (h (by simpa using hc)))
  · exact .next (.flow _ hnext)

theorem State.branchC_ends (taken : Bool) (target : Word) (h : GoesOnAt i s target)
    (hnext : GoesOnAt i s (s.pc + 2#32)) : ResultMeets (InstrEnd i s) (s.branchC taken target) := by
  cases taken
  · exact .next (.flow _ hnext)
  · exact .next (.flow _ h)

/-- Without the C extension a return address that is no multiple of 4 is refused, so MRET goes on aligned (R372, U9). -/
theorem execMret_ends : ResultMeets (InstrEnd .mret s) (execMret s) := by
  unfold execMret
  split
  · exact .refused _
  · next hm =>
    refine .next (.returned rfl fun _ _ _ => alignedIn_iff.mpr ⟨getLsbD_even_mask _, fun hc => ?_⟩)
    have hbit : s.mepc.getLsbD 1 = false := by simpa [State.returnMisaligned, hc] using hm
    rw [BitVec.getLsbD_and, hbit, Bool.false_and]

/-! ### Loads and stores -/

theorem State.bpReact_meets (hits : List Bool) (a : Word) :
    AttemptMeets (Checked s) (Stopped s) (s.bpReact hits a) := by
  rcases s.bpReact_cases hits a with h | h | h | h <;> rw [h]
  · exact Checked.marked hits
  · exact State.breakpointEvent_stops (.marked hits) a
  · exact ResultMeets.next (.debug (.marked hits) _)
  · exact ResultMeets.refused _

theorem State.bpCheckData_meets (k : AccessKind) (a : Word) (n : Nat) :
    AttemptMeets (Checked s) (Stopped s) (s.bpCheckData k a n) := by
  unfold State.bpCheckData
  split
  · exact Checked.quiet
  · exact s.bpReact_meets _ a

theorem State.memRead_meets (a : Word) (n : Nat) : AttemptMeets (Checked s) (Stopped s) (s.memRead a n) := by
  have hcheck := s.bpCheckData_meets .load a n
  unfold State.memRead
  cases hb : s.bpCheckData .load a n with
  | ended r => rwa [hb] at hcheck
  | done t x =>
    have ht : Checked s t := by rwa [hb] at hcheck
    dsimp only
    cases hp : dataPlace t.cfg .load a n with
    | misaligned | noAnswer => exact ResultMeets.next (.trap ht _ _)
    | timerHole | tcmBeyond => exact ResultMeets.fault _
    | device => exact ResultMeets.refused _
    | timer | tcm | ext => exact ht

theorem State.memWrite_meets (a : Word) (n : Nat) (v : Word) :
    AttemptMeets (Stored s) (Stopped s) (s.memWrite a n v) := by
  have hcheck := s.bpCheckData_meets .store a n
  unfold State.memWrite
  cases hb : s.bpCheckData .store a n with
  | ended r => rwa [hb] at hcheck
  | done t x =>
    have ht : Checked s t := by rwa [hb] at hcheck
    dsimp only
    cases hp : dataPlace t.cfg .store a n with
    | misaligned | noAnswer => exact ResultMeets.next (.trap ht _ _)
    | timerHole | tcmBeyond => exact ResultMeets.fault _
    | device => exact ResultMeets.refused _
    | timer off => exact Stored.timer ht off v
    | tcm off => exact Stored.tcm ht off n v
    | ext e => exact Stored.ext ht e n v

theorem Checked.pc {s t : State} (h : Checked s t) : t.pc = s.pc := by
  cases h <;> rfl

theorem Checked.cfg {s t : State} (h : Checked s t) : t.cfg = s.cfg := by
  cases h <;> rfl

theorem Stored.pc {s t : State} (h : Stored s t) : t.pc = s.pc := by
  cases h with
  | tcm hu | ext hu | timer hu => exact hu.pc

theorem Stored.cfg {s t : State} (h : Stored s t) : t.cfg = s.cfg := by
  cases h with
  | tcm hu | ext hu | timer hu => exact hu.cfg

theorem State.load_ends (rd : Reg) (a : Word) (n : Nat) (w : Widen) (len : Word) (h : GoesOnAt i s (s.pc + len)) :
    ResultMeets (InstrEnd i s) (s.load rd a n w len) := by
  have hread := s.memRead_meets a n
  unfold State.load
  cases hm : s.memRead a n with
  | ended r =>
    have hr : ResultMeets (Stopped s) r := by rwa [hm] at hread
    exact hr.stopped
  | done t v =>
    have ht : Checked s t := by rwa [hm] at hread
    exact .next (.result ht rd _ _ (ht.pc ▸ h))

theorem State.store_ends (a : Word) (n : Nat) (v len : Word) (h : GoesOnAt i s (s.pc + len)) :
    ResultMeets (InstrEnd i s) (s.store a n v len) := by
  have hwrite := s.memWrite_meets a n v
  unfold State.store
  cases hm : s.memWrite a n v with
  | ended r =>
    have hr : ResultMeets (Stopped s) r := by rwa [hm] at hwrite
    exact hr.stopped
  | done t x =>
    have ht : Stored s t := by rwa [hm] at hwrite
    exact .next (.stored ht _ (ht.pc ▸ h))

/-! ### The next address -/

theorem goesOnAt_four : GoesOnAt i s (s.pc + 4#32) := fun _ _ h => h.add_four

/-- With the C extension every even address is aligned. -/
theorem goesOnAt_of_compressed {a : Word} (hi : i.ext = .compressed)
    (ha : i.wf = true → AlignedIn s.cfg s.pc → a.getLsbD 0 = false) : GoesOnAt i s a :=
  fun hwf hex h => alignedIn_of_rvc (Instr.rvc_of_existsIn hi hex) (ha hwf h)

theorem goesOnAt_two (hi : i.ext = .compressed) : GoesOnAt i s (s.pc + 2#32) :=
  goesOnAt_of_compressed s hi fun _ h => h.add_even rfl

/-- The target of a compressed transfer with a well-formed offset. -/
theorem goesOnAt_offset {n : Nat} {imm : BitVec n} (hi : i.ext = .compressed) (hn : 0 < n)
    (heven : i.wf = true → imm.getLsbD 0 = false) : GoesOnAt i s (s.pc + sext imm) :=
  goesOnAt_of_compressed s hi fun hwf h => h.add_even (sext_even hn (heven hwf))

/-- A target that passes the alignment check is even for a well-formed offset. -/
theorem goesOnAt_of_checked {n : Nat} {imm : BitVec n} (hn : 0 < n) (hi : i.wf = true → imm.getLsbD 0 = false)
    (hc : s.misalignedTarget (s.pc + sext imm) = false) : GoesOnAt i s (s.pc + sext imm) :=
  fun hwf _ h => State.alignedIn_of_checked (h.add_even (sext_even hn (hi hwf))) hc

end

/-! ### Every instruction -/

/-- Each instruction that is no CSR instruction ends in one of the operations above. -/
theorem exec_ends {i : Instr} (s : State) (hcsr : i.isCsr = false) : ResultMeets (InstrEnd i s) (exec i s) := by
  have heven {b : Bool} (h : (b == false) = true) : b = false := beq_iff_eq.mp h
  cases i with
  | csrrw | csrrs | csrrc | csrrwi | csrrsi | csrrci => cases hcsr
  | lui | auipc | addi | slti | sltiu | xori | ori | andi | slli | srli | srai | add | sub | sll | slt | sltu | xor
  | srl | sra | or | and | mul | mulh | mulhsu | mulhu | div | divu | rem | remu =>
    exact s.finish_ends _ _ _ (goesOnAt_four s)
  | cAddi4spn | cAddi | cLi | cAddi16sp | cLui | cAndi | cSub | cXor | cOr | cAnd | cMv | cAdd =>
    exact s.finish_ends _ _ _ (goesOnAt_two s rfl)
  | cSrli | cSrai | cSlli => exact s.finishShiftC_ends _ _ _ (goesOnAt_two s rfl)
  | jal rd imm => exact s.jumpChecked_ends _ _ _ (goesOnAt_of_checked s (by omega) heven)
  | jalr rd rs1 imm =>
    exact s.jumpChecked_ends _ _ _ fun hc _ _ _ => State.alignedIn_of_checked (getLsbD_even_mask _) hc
  | beq rs1 rs2 imm | bne rs1 rs2 imm | blt rs1 rs2 imm | bge rs1 rs2 imm | bltu rs1 rs2 imm | bgeu rs1 rs2 imm =>
    exact s.branch_ends _ _ (goesOnAt_of_checked s (by omega) heven) (goesOnAt_four s)
  | cJal imm => exact s.jumpLink_ends _ _ _ (goesOnAt_offset s rfl (by omega) heven)
  | cJalr rs1 => exact s.jumpLink_ends _ _ _ (goesOnAt_of_compressed s rfl fun _ _ => getLsbD_even_mask _)
  | cJ imm => exact .next (.flow _ (goesOnAt_offset s rfl (by omega) heven))
  | cJr rs1 => exact .next (.flow _ (goesOnAt_of_compressed s rfl fun _ _ => getLsbD_even_mask _))
  | cBeqz rs1 imm | cBnez rs1 imm =>
    exact s.branchC_ends _ _ (goesOnAt_offset s rfl (by omega) heven) (goesOnAt_two s rfl)
  | lb | lh | lw | lbu | lhu => exact s.load_ends _ _ _ _ _ (goesOnAt_four s)
  | cLw | cLwsp => exact s.load_ends _ _ _ _ _ (goesOnAt_two s rfl)
  | sb | sh | sw => exact s.store_ends _ _ _ _ (goesOnAt_four s)
  | cSw | cSwsp => exact s.store_ends _ _ _ _ (goesOnAt_two s rfl)
  | ecall | cIllegal => exact (s.raise_stops _ _).stopped
  | ebreak | cEbreak => exact (State.breakpointEvent_stops .quiet _).stopped
  | mret => exact execMret_ends s
  | fence => exact .next (.flow _ (goesOnAt_four s))
  | fenceI => exact .next (.queueEmptied _ (goesOnAt_four s))
  | wfi => exact .next (.waited _ _ (goesOnAt_four s))
  | cNop => exact .next (.flow _ (goesOnAt_two s rfl))

end Sys2Proof.Machine
end

section
/-! # Proofs of the family 10_state: control state and the instructions that are no CSR instructions (O16) -/

namespace Sys2Proof.Machine

open Sys2Proof

/-- A breakpoint without its MATCHED bit. -/
def Breakpoint.unmatched (b : Breakpoint) : Breakpoint := { b with matched := false }

/-- The registers of O16 that only a CSR instruction writes, and the lines. -/
structure SameControl (s t : State) : Prop where
  msie : t.mieMsie = s.mieMsie
  mtie : t.mieMtie = s.mieMtie
  meie : t.mieMeie = s.mieMeie
  mtvec : t.mtvecMode = s.mtvecMode
  mscratch : t.mscratch = s.mscratch
  cy : t.mcountenCy = s.mcountenCy
  ir : t.mcountenIr = s.mcountenIr
  scratch : t.dbgScratch = s.dbgScratch
  mcycle : t.mcycle = s.mcycle
  ipic : t.ipic = s.ipic
  pins : t.pins = s.pins
  bpselect : t.brkm.bpselect = s.brkm.bpselect
  mode : t.brkm.mode = s.brkm.mode
  skip : t.brkm.bpISkip = s.brkm.bpISkip
  armed : t.brkm.skipArmed = s.brkm.skipArmed
  bps : t.brkm.bps.map Breakpoint.unmatched = s.brkm.bps.map Breakpoint.unmatched

/-- MSTATUS, MEPC, MCAUSE and MTVAL are the same. -/
structure SameTrapCsrs (s t : State) : Prop where
  mie : t.mstatusMie = s.mstatusMie
  mpie : t.mstatusMpie = s.mstatusMpie
  mepc : t.mepc = s.mepc
  int : t.mcauseInt = s.mcauseInt
  ec : t.mcauseEc = s.mcauseEc
  mtval : t.mtval = s.mtval

/-- What trap entry makes of MSTATUS, MEPC and MCAUSE, the instruction not being counted (R482, R520). -/
structure TrapCsrsEntered (s t : State) : Prop where
  mie : t.mstatusMie = false
  mpie : t.mstatusMpie = s.mstatusMie
  int : t.mcauseInt = false
  mepc : t.mepc = s.pc &&& 0xFFFFFFFE#32
  minstret : t.minstret = s.minstret

/-- What trap return makes of MSTATUS, the other trap CSRs staying (R524). -/
structure TrapCsrsReturned (s t : State) : Prop where
  mie : t.mstatusMie = s.mstatusMpie
  mpie : t.mstatusMpie = true
  mepc : t.mepc = s.mepc
  int : t.mcauseInt = s.mcauseInt
  ec : t.mcauseEc = s.mcauseEc
  mtval : t.mtval = s.mtval

/-! ### The breakpoint check and the stores -/

theorem Breakpoint.mark_unmatched (b : Breakpoint) (hit : Bool) : (b.mark hit).unmatched = b.unmatched := by
  unfold Breakpoint.mark
  split <;> rfl

/-- A match changes MATCHED bits only (R545). -/
theorem markAll_unmatched (bs : List Breakpoint) (hits : List Bool) :
    (markAll bs hits).map Breakpoint.unmatched = bs.map Breakpoint.unmatched := by
  induction bs generalizing hits with
  | nil => rfl
  | cons b bs ih =>
    cases hits with
    | nil => rfl
    | cons h hs => simp [markAll, Breakpoint.mark_unmatched, ih]

theorem SameControl.refl (s : State) : SameControl s s :=
  ⟨rfl, rfl, rfl, rfl, rfl, rfl, rfl, rfl, rfl, rfl, rfl, rfl, rfl, rfl, rfl, rfl⟩

theorem Checked.sameControl {s u : State} (h : Checked s u) : SameControl s u := by
  cases h with
  | quiet => exact .refl s
  | marked hits => exact { SameControl.refl s with bps := markAll_unmatched _ hits }

theorem Checked.sameTrapCsrs {s u : State} (h : Checked s u) : SameTrapCsrs s u := by
  cases h <;> exact ⟨rfl, rfl, rfl, rfl, rfl, rfl⟩

theorem Checked.minstret {s u : State} (h : Checked s u) : u.minstret = s.minstret := by
  cases h <;> rfl

theorem Stored.sameControl {s u : State} (h : Stored s u) : SameControl s u := by
  cases h with
  | tcm hu | ext hu | timer hu => exact { hu.sameControl with }

theorem Stored.sameTrapCsrs {s u : State} (h : Stored s u) : SameTrapCsrs s u := by
  cases h with
  | tcm hu | ext hu | timer hu => exact { hu.sameTrapCsrs with }

/-! ### Every end of an instruction -/

theorem Stopped.sameControl {s t : State} (h : Stopped s t) : SameControl s t := by
  cases h with
  | trap hu | debug hu => exact { hu.sameControl with }

theorem InstrEnd.sameControl {i : Instr} {s t : State} (h : InstrEnd i s t) : SameControl s t := by
  cases h with
  | result hu => exact { hu.sameControl with }
  | stored hu => exact { hu.sameControl with }
  | stopped ht => exact ht.sameControl
  | flow | queueEmptied | waited | returned => exact { SameControl.refl s with }

theorem Stopped.trapCsrs {s t : State} (h : Stopped s t) : SameTrapCsrs s t ∨ TrapCsrsEntered s t := by
  cases h with
  | debug hu => exact .inl { hu.sameTrapCsrs with }
  | trap hu =>
    refine .inr ⟨rfl, hu.sameTrapCsrs.mie, rfl, ?_, hu.minstret⟩
    exact congrArg (· &&& 0xFFFFFFFE#32) hu.pc

theorem InstrEnd.trapCsrs {i : Instr} {s t : State} (h : InstrEnd i s t) :
    SameTrapCsrs s t ∨ TrapCsrsEntered s t ∨ i = .mret ∧ TrapCsrsReturned s t := by
  cases h with
  | result hu => exact .inl { hu.sameTrapCsrs with }
  | stored hu => exact .inl { hu.sameTrapCsrs with }
  | flow | queueEmptied | waited => exact .inl ⟨rfl, rfl, rfl, rfl, rfl, rfl⟩
  | returned hi => exact .inr (.inr ⟨hi, rfl, rfl, rfl, rfl, rfl, rfl⟩)
  | stopped ht => exact ht.trapCsrs.imp_right .inl

theorem Instr.isCsr_eq_false {i : Instr} (h : ∀ rd a rs1, i ≠ .csrrw rd a rs1 ∧ i ≠ .csrrs rd a rs1 ∧
    i ≠ .csrrc rd a rs1 ∧ i ≠ .csrrwi rd a rs1 ∧ i ≠ .csrrsi rd a rs1 ∧ i ≠ .csrrci rd a rs1) : i.isCsr = false := by
  cases i with
  | csrrw rd a r | csrrs rd a r | csrrc rd a r | csrrwi rd a r | csrrsi rd a r | csrrci rd a r =>
    simpa using h rd a r
  | _ => rfl

/-- Settles O16: by the ways an instruction that is no CSR instruction can end. -/
theorem onlyCsrInstructionsWriteControlState : Obligations.OnlyCsrInstructionsWriteControlState := by
  intro i s t hcsr h
  have hend : InstrEnd i s t := exec_ends s (Instr.isCsr_eq_false hcsr) t h
  obtain ⟨msie, mtie, meie, mtvec, mscratch, cy, ir, scratch, mcycle, ipic, pins, bpselect, mode, skip, armed, bps⟩ :=
    hend.sameControl
  refine ⟨msie, mtie, meie, mtvec, mscratch, cy, ir, scratch, mcycle, ipic, pins, bpselect, mode, skip, armed, bps, ?_⟩
  rcases hend.trapCsrs with ⟨mie, mpie, mepc, int, ec, mtval⟩ | ⟨mie, mpie, int, mepc, minstret⟩ |
    ⟨hi, mie, mpie, mepc, int, ec, mtval⟩
  · exact .inl ⟨mie, mpie, mepc, int, ec, mtval⟩
  · exact .inr (.inl ⟨mie, mpie, int, mepc, minstret⟩)
  · exact .inr (.inr ⟨hi, mie, mpie, mepc, int, ec, mtval⟩)

end Sys2Proof.Machine
end

section
/-! # Proofs of the family 10_state: the timer's divider (O50) -/

namespace Sys2Proof.Machine

open Sys2Proof

/-! ### Edges of the selected clock -/

/-- Between `x` and `y` mtime and the divider's phase have advanced and nothing else has changed. -/
def OnlyAdvanced (x y : Timer) : Prop := ∃ m p, y = { x with mtime := m, phase := p }

theorem OnlyAdvanced.refl (x : Timer) : OnlyAdvanced x x := ⟨_, _, rfl⟩

theorem OnlyAdvanced.trans {x y z : Timer} (hxy : OnlyAdvanced x y) (hyz : OnlyAdvanced y z) : OnlyAdvanced x z := by
  obtain ⟨_, _, rfl⟩ := hxy
  obtain ⟨_, _, rfl⟩ := hyz
  exact ⟨_, _, rfl⟩

theorem Timer.edge_onlyAdvanced (x : Timer) : OnlyAdvanced x x.edge := by
  unfold Timer.edge
  split <;> exact ⟨_, _, rfl⟩

theorem Timer.edges_onlyAdvanced (n : Nat) (x : Timer) : OnlyAdvanced x (x.edges n) := by
  induction n generalizing x with
  | zero => exact .refl x
  | succ n ih => exact x.edge_onlyAdvanced.trans (ih x.edge)

/-- The last edge of a period: one increment, and the divider begins again. -/
theorem Timer.edge_wraps {x : Timer} (h : x.phase + 1 = x.coef.toNat) :
    x.edge = { x with phase := 0, mtime := x.mtime + 1#64 } := by
  simp [Timer.edge, h]

theorem Timer.edge_advances {x : Timer} (h : x.phase + 1 < x.coef.toNat) :
    x.edge = { x with phase := x.phase + 1 } := by
  simp [Timer.edge, Nat.not_le.mpr h]

/-- `n` edges divide by COEF: the quotient goes to mtime and the remainder stays in the divider (R535). -/
theorem Timer.edges_divide (n : Nat) {x : Timer} (h : x.phase < x.coef.toNat) :
    (x.edges n).mtime = x.mtime + BitVec.ofNat 64 ((x.phase + n) / x.coef.toNat) ∧
      (x.edges n).phase = (x.phase + n) % x.coef.toNat := by
  induction n generalizing x with
  | zero => simp [Timer.edges, Nat.div_eq_of_lt h, Nat.mod_eq_of_lt h]
  | succ n ih =>
    simp only [Timer.edges]
    rcases Nat.lt_or_ge (x.phase + 1) x.coef.toNat with hlt | hge
    · have hrest := ih (x := { x with phase := x.phase + 1 }) hlt
      have hsum : x.phase + 1 + n = x.phase + (n + 1) := by omega
      rw [Timer.edge_advances hlt]
      simpa only [hsum] using hrest
    · have hwrap : x.phase + 1 = x.coef.toNat := by omega
      have hpos : 0 < x.coef.toNat := by omega
      have hrest := ih (x := { x with phase := 0, mtime := x.mtime + 1#64 }) hpos
      have hsum : x.phase + (n + 1) = 0 + n + x.coef.toNat := by omega
      rw [Timer.edge_wraps hwrap, hsum, Nat.add_div_right _ hpos, Nat.add_mod_right]
      refine ⟨hrest.1.trans ?_, hrest.2⟩
      rw [BitVec.add_assoc, Nat.add_comm _ 1, BitVec.ofNat_add]

/-! ### Ticks -/

theorem Timer.tick_off {x : Timer} (h : x.en = false) (n free : Nat) : x.tick n free = x := by
  simp [Timer.tick, h]

theorem Timer.tick_on {x : Timer} (h : x.en = true) (hc : x.coef ≠ 0#16) (n free : Nat) :
    x.tick n free = x.edges n := by
  simp [Timer.tick, h, hc]

theorem Timer.coef_ne_zero {x : Timer} (h : x.phase < x.coef.toNat) : x.coef ≠ 0#16 := by
  rintro hz
  simp [hz] at h

/-- Ticks leave the compare register and MTIMECLKSET, whatever COEF is. -/
theorem Timer.tick_onlyAdvanced (x : Timer) (n free : Nat) : OnlyAdvanced x (x.tick n free) := by
  unfold Timer.tick
  split
  · exact .refl x
  split
  · exact ⟨_, _, rfl⟩
  · exact x.edges_onlyAdvanced n

/-! ### The two clocks -/

theorem State.rtc_of_clksel {s : State} (h : s.timer.clksel = true) (n : Nat) : s.rtc n = s := by
  simp [State.rtc, h]

theorem State.clk_timer {s : State} (n : Nat) :
    (s.timer.clksel = true → (s.clk n).timer = s.timer.tick n (Config.freeMtimeAdvance s.freeIdx)) ∧
      (s.timer.clksel = false → (s.clk n).timer = s.timer) :=
  ⟨fun h => by simp [State.clk, h], fun h => by simp [State.clk, h]⟩

theorem State.rtc_timer {s : State} (n : Nat) (h : s.timer.clksel = false) :
    (s.rtc n).timer = s.timer.tick n (Config.freeMtimeAdvance s.freeIdx) := by
  simp [State.rtc, h]

/-- Settles O50: by induction on the number of edges, at each of which the divider counts on or begins again. -/
theorem timerDividesItsClock : Obligations.TimerDividesItsClock := by
  refine ⟨fun s n => ⟨rfl, fun h => ⟨_, (State.clk_timer n).1 h⟩, (State.clk_timer n).2,
    fun h => ⟨_, State.rtc_timer n h⟩, fun h => State.rtc_of_clksel h n, rfl, rfl, rfl⟩,
    fun x n free hphase => ⟨fun hen => ?_, fun hen => Timer.tick_off hen n free, ?_⟩⟩
  · rw [Timer.tick_on hen (Timer.coef_ne_zero hphase)]
    exact Timer.edges_divide n hphase
  · obtain ⟨_, _, h⟩ := x.tick_onlyAdvanced n free
    rw [h]
    exact ⟨rfl, rfl, rfl, rfl⟩

end Sys2Proof.Machine
end

section
/-! # Proofs of the family 10_state: the invariant and the instructions (O13, O14) -/

namespace Sys2Proof.Machine

open Sys2Proof

/-! ### Reset -/

/-- The reset vector of a legal configuration is a multiple of 4 (R26). -/
theorem Config.rstVector_aligned {c : Config} (h : c.legal = true) : AlignedIn c c.rstVector := by
  simp only [Config.legal, Bool.and_eq_true, beq_iff_eq] at h
  obtain ⟨⟨⟨⟨_, hvector⟩, _⟩, _⟩, _⟩ := h
  exact alignedIn_of_multiple ((BitVec.setWidth_eq_extractLsb' (by omega)).trans hvector)

/-- The state after reset meets the invariant in every legal configuration. -/
theorem State.resetWith_inv {c : Config} (h : c.legal = true) : Inv (State.resetWith c) where
  hart := ⟨h, Vector.getElem_replicate _, Config.rstVector_aligned h,
    show (0#32).getLsbD 0 = false by decide, fun _ => rfl⟩
  units := ⟨List.length_replicate, Nat.two_pow_pos _, show 0 < 100 by decide, rfl⟩
  memory := ⟨rfl, rfl, rfl⟩

/-- Settles O13: the default configuration is legal. -/
theorem invariantHoldsAtReset : Obligations.InvariantHoldsAtReset := State.resetWith_inv (by decide)

/-! ### The timer -/

/-- The divider's phase is one it can have (R56, U20). -/
def Timer.PhaseLegal (x : Timer) : Prop := x.phase < max x.coef.toNat 1

theorem Timer.disturb_phaseLegal (x : Timer) (free : Nat) : (x.disturb free).PhaseLegal :=
  Nat.mod_lt free (by omega)

theorem Timer.write_phaseLegal {x : Timer} (h : x.PhaseLegal) (off : Nat) (v : Word) (free : Nat) :
    (x.write off v free).PhaseLegal := by
  unfold Timer.write
  repeat' split
  · exact Timer.disturb_phaseLegal _ free
  · exact Timer.disturb_phaseLegal _ free
  · exact h
  · exact h
  · exact Timer.disturb_phaseLegal _ free

theorem Timer.tick_phaseLegal {x : Timer} (h : x.PhaseLegal) (n free : Nat) : (x.tick n free).PhaseLegal := by
  unfold Timer.tick
  split
  · exact h
  split
  · exact h
  next hc =>
    have hcoef : x.coef.toNat ≠ 0 := fun hz => hc (BitVec.eq_of_toNat_eq hz)
    have hphase : x.phase < x.coef.toNat := by unfold Timer.PhaseLegal at h; omega
    obtain ⟨m, p, hedges⟩ := x.edges_onlyAdvanced n
    have hrest : (x.edges n).phase < x.coef.toNat :=
      (Timer.edges_divide n hphase).2 ▸ Nat.mod_lt _ (by omega)
    have hsame : (x.edges n).coef = x.coef := by rw [hedges]
    unfold Timer.PhaseLegal
    rw [hsame]
    omega

/-! ### The shared operations -/

theorem markAll_length (bs : List Breakpoint) (hits : List Bool) : (markAll bs hits).length = bs.length := by
  induction bs generalizing hits with
  | nil => rfl
  | cons b bs ih =>
    cases hits with
    | nil => rfl
    | cons h hs => simp [markAll, ih]

section

variable {s : State} (h : Inv s)
include h

theorem Inv.setReg (rd : Reg) (v : Word) : Inv (s.setReg rd v) where
  hart := { h.hart with
    zero := by
      have hzero := h.hart.zero
      rw [State.setReg_regs]
      split
      · exact hzero
      · next hrd =>
        have hne : rd.toNat ≠ 0 := fun hz => hrd (BitVec.eq_of_toNat_eq hz)
        rwa [Vector.getElem_set_ne _ _ hne] }
  units := { h.units with }
  memory := { h.memory with }

theorem Inv.jumpTo {a : Word} (ha : AlignedIn s.cfg a) : Inv (s.jumpTo a) :=
  ⟨{ h.hart with aligned := ha }, { h.units with }, { h.memory with }⟩

theorem Inv.trapEntry (int : Bool) (code : BitVec 4) (epc tval : Word) : Inv (s.trapEntry int code epc tval) where
  hart := { h.hart with
    aligned := s.trapTarget_aligned int code
    mepc := getLsbD_even_mask epc }
  units := { h.units with }
  memory := { h.memory with }

theorem Inv.trapReturn (ha : AlignedIn s.cfg (s.mepc &&& 0xFFFFFFFE#32)) : Inv s.trapReturn :=
  ⟨{ h.hart with aligned := ha }, { h.units with }, { h.memory with }⟩

theorem Inv.enterDebug (e : DebugEntry) : Inv (s.enterDebug e) :=
  ⟨{ h.hart with }, { h.units with }, { h.memory with }⟩

/-- The wait state and the fetch queue are no part of the invariant. -/
theorem Inv.of_waiting (w : Bool) (q : List (Word × Word)) : Inv { s with waiting := w, fetchQueue := q } :=
  ⟨{ h.hart with }, { h.units with }, { h.memory with }⟩

theorem Inv.marked (hits : List Bool) : Inv (s.marked hits) :=
  ⟨{ h.hart with }, { h.units with breakpoints := (markAll_length _ _).trans h.units.breakpoints }, { h.memory with }⟩

theorem Inv.storeTcm (off n : Nat) (v : Word) : Inv (s.storeTcm off n v) :=
  ⟨{ h.hart with }, { h.units with }, { h.memory with tcm := Memory.storeLE_wf n off v h.memory.tcm }⟩

theorem Inv.storeExt (a n : Nat) (v : Word) : Inv (s.storeExt a n v) :=
  ⟨{ h.hart with }, { h.units with }, { h.memory with ext := Memory.storeLE_wf n a v h.memory.ext }⟩

theorem Inv.of_timer {x : Timer} (hx : x.PhaseLegal) : Inv { s with timer := x } :=
  ⟨{ h.hart with }, { h.units with phase := hx }, { h.memory with }⟩

theorem Inv.storeTimer (off : Nat) (v : Word) : Inv (s.storeTimer off v) :=
  h.of_timer (Timer.write_phaseLegal h.units.phase off v _)

theorem Inv.raise (e : Cause) (info : Word) : ResultMeets Inv (s.raise e info) := .next (h.trapEntry _ _ _ _)

/-! ### Every end of an instruction -/

theorem Inv.of_checked {u : State} (hu : Checked s u) : Inv u := by
  cases hu with
  | quiet => exact h
  | marked hits => exact h.marked hits

theorem Inv.of_stored {u : State} (hu : Stored s u) : Inv u := by
  cases hu with
  | tcm hu off n v => exact (h.of_checked hu).storeTcm off n v
  | ext hu a n v => exact (h.of_checked hu).storeExt a n v
  | timer hu off v => exact (h.of_checked hu).storeTimer off v

theorem Inv.of_stopped {t : State} (ht : Stopped s t) : Inv t := by
  cases ht with
  | trap hu code tval => exact (h.of_checked hu).trapEntry _ code _ tval
  | debug hu e => exact (h.of_checked hu).enterDebug e

/-- An instruction that the configuration has keeps the invariant, whichever way it ends. -/
theorem Inv.of_instrEnd {i : Instr} {t : State} (hwf : i.wf = true) (hex : i.existsIn s.cfg = true)
    (ht : InstrEnd i s t) : Inv t := by
  have hnext {a : Word} (ha : GoesOnAt i s a) : AlignedIn s.cfg a := ha hwf hex h.hart.aligned
  cases ht with
  | result hu rd v a ha => exact ((h.of_checked hu).setReg rd v).jumpTo (hu.cfg ▸ hnext ha)
  | flow a ha => exact h.jumpTo (hnext ha)
  | stored hu a ha => exact (h.of_stored hu).jumpTo (hu.cfg ▸ hnext ha)
  | queueEmptied a ha => exact (h.of_waiting _ []).jumpTo (hnext ha)
  | waited w a ha => exact (h.jumpTo (hnext ha)).of_waiting w _
  | returned hi ha => exact h.trapReturn (hnext ha)
  | stopped ht => exact h.of_stopped ht

end

/-! ### CSR instructions -/

/-- BPSELECT keeps its implemented bits only (R140). -/
theorem selectAfter_lt {width : Nat} (hw : width ≤ 12) (v : Word) : (selectAfter width v).toNat < 2 ^ width := by
  have hmod : v.toNat % 2 ^ width < 2 ^ width := Nat.mod_lt _ (Nat.two_pow_pos _)
  have hpow : 2 ^ width ≤ 2 ^ 12 := Nat.pow_le_pow_right (by omega) hw
  rw [selectAfter, BitVec.toNat_ofNat, Nat.mod_eq_of_lt (by omega)]
  exact hmod

theorem Config.bpWidth_le (c : Config) : c.bpWidth ≤ 3 := by
  unfold Config.bpWidth
  repeat' split
  all_goals omega

section

variable {s t : State} (h : Inv s)
include h

theorem Inv.bpWrite {f : Breakpoint → Breakpoint} (ht : s.bpWrite f = .ok t) : Inv t := by
  unfold State.bpWrite at ht
  split at ht <;> cases ht
  exact ⟨{ h.hart with }, { h.units with breakpoints := List.length_set.trans h.units.breakpoints }, { h.memory with }⟩

/-- Each CSR that the invariant speaks of takes the written bits that keep it (R40, R42, R140). -/
theorem Inv.writeCsr {c : Csr} {v : Word} (ht : s.writeCsr c v = .ok t) : Inv t := by
  cases c with
  | bpcontrol | bploaddr | bphiaddr | bpctrlext => exact h.bpWrite ht
  | mepc =>
    cases ht
    exact ⟨{ h.hart with mepc := getLsbD_even_mask v }, { h.units with }, { h.memory with }⟩
  | mtvec =>
    cases ht
    refine ⟨{ h.hart with mode := fun hv => ?_ }, { h.units with }, { h.memory with }⟩
    exact (if_neg (by simpa using hv)).trans (h.hart.mode hv)
  | bpselect =>
    cases ht
    have hwidth := Config.bpWidth_le s.cfg
    exact ⟨{ h.hart with }, { h.units with select := selectAfter_lt (by omega) v }, { h.memory with }⟩
  | misa | mip | ipicCisv | ipicIsvr | bplodata | bphidata | cycle | time | instret | cycleh | timeh | instreth
  | mvendorid | marchid | mimpid | mhartid =>
    cases ht
    exact h
  | _ =>
    cases ht
    exact ⟨{ h.hart with }, { h.units with }, { h.memory with }⟩

theorem Inv.csrWriteBack {c : Csr} {v : Option Word} (ht : s.csrWriteBack c v = .ok t) : Inv t := by
  cases v with
  | none =>
    cases ht
    exact h
  | some v => exact h.writeCsr ht

theorem Inv.csrAccess (rd : Reg) (c : Csr) (w : CsrWrite) : ResultMeets Inv (s.csrAccess rd c w) := by
  unfold State.csrAccess
  cases hw : s.csrWriteBack c (w.value (s.readCsr c)) with
  | error e => exact .refused e
  | ok u =>
    have hu : Inv u := h.csrWriteBack hw
    have hpc : AlignedIn u.cfg (s.pc + 4#32) := State.csrWriteBack_cfg hw ▸ AlignedIn.add_four h.hart.aligned
    have hend : Inv { u with minstret := csrInstret s u c w.writes, pc := s.pc + 4#32 } :=
      ⟨{ hu.hart with aligned := hpc }, { hu.units with }, { hu.memory with }⟩
    exact .next (hend.setReg rd _)

theorem Inv.csrOp (rd : Reg) (a : CsrAddr) (w : CsrWrite) (inst : Word) : ResultMeets Inv (s.csrOp rd a w inst) := by
  unfold State.csrOp
  split
  · exact h.raise _ _
  split
  · exact h.raise _ _
  split
  · exact .refused _
  · exact h.csrAccess _ _ _

/-- Every instruction that the configuration has keeps the invariant. -/
theorem Inv.exec {i : Instr} (hwf : i.wf = true) (hex : i.existsIn s.cfg = true) : ResultMeets Inv (exec i s) := by
  cases hcsr : i.isCsr with
  | false => exact (exec_ends s hcsr).mono fun _ => h.of_instrEnd hwf hex
  | true =>
    cases i with
    | csrrw | csrrs | csrrc | csrrwi | csrrsi | csrrci => exact h.csrOp _ _ _ _
    | _ => cases hcsr

end

end Sys2Proof.Machine
end

section
/-! # Proofs of the family 10_state: the invariant and the step (O14) -/

namespace Sys2Proof.Machine

open Sys2Proof

/-! ### The instruction at the pc -/

/-- A fetch stops with the fault of the TCM's end or the refusal of a device, never with a next state (R239, U22). -/
theorem State.fetchWord_stop_cases {s : State} {w tval : Word} {r : Result} (h : s.fetchWord w tval = .stop r) :
    r = .fault .tcmBeyondSize ∨ r = .refused .deviceAccess := by
  unfold State.fetchWord at h
  repeat' split at h
  all_goals cases h
  · exact .inl rfl
  · exact .inr rfl

theorem State.fetchHalf_stop_cases {s : State} {a : Word} {r : Result} (h : s.fetchHalf a = .stop r) :
    r = .fault .tcmBeyondSize ∨ r = .refused .deviceAccess := by
  unfold State.fetchHalf at h
  split at h
  · cases h
  · cases h
  · next hw =>
    cases h
    exact State.fetchWord_stop_cases hw

theorem State.fetch_stop_cases {s : State} {r : Result} (h : s.fetch = .stop r) :
    r = .fault .tcmBeyondSize ∨ r = .refused .deviceAccess := by
  unfold State.fetch at h
  split at h
  · cases h
  · next hlo =>
    cases h
    exact State.fetchHalf_stop_cases hlo
  split at h
  · cases h
  split at h
  · cases h
  · next hhi =>
    cases h
    exact State.fetchHalf_stop_cases hhi
  · cases h

/-- The instruction of a parcel is well-formed and the configuration has it (R260, R283). -/
theorem decodeIn_ok {c : Config} {p : Parcel} {i : Instr} (h : decodeIn c p = .ok i) :
    i.wf = true ∧ i.existsIn c = true := by
  unfold decodeIn at h
  split at h
  · cases h
  · next hdec =>
    split at h
    · next hex =>
      cases h
      exact ⟨decodeParcel_wf hdec, hex⟩
    · cases h

section

variable {s : State} (h : Inv s)
include h

theorem Inv.runParcel (p : Parcel) : ResultMeets Inv (s.runParcel p) := by
  unfold State.runParcel
  split
  · next hdec =>
    obtain ⟨hwf, hex⟩ := decodeIn_ok hdec
    exact h.exec hwf hex
  · split
    · exact .refused _
    · exact h.raise _ _
  · exact h.raise _ _

theorem Inv.fetchAndRun : ResultMeets Inv s.fetchAndRun := by
  unfold State.fetchAndRun
  cases hf : s.fetch with
  | noAnswer tval => exact h.raise _ _
  | stop r =>
    rcases State.fetch_stop_cases hf with rfl | rfl
    · exact .fault _
    · exact .refused _
  | ok p =>
    dsimp only
    unfold State.runFetched
    split
    · exact h.raise _ _
    · exact h.runParcel p

/-- The skip mechanism touches MATCHED bits and its own arming only (R149, U19). -/
theorem Inv.bpSkipped (hits : List Bool) : Inv (s.bpSkipped hits) := by
  have hdisarm {u : State} (hu : Inv u) : Inv { u with brkm := { u.brkm with skipArmed := false } } :=
    ⟨{ hu.hart with }, { hu.units with }, { hu.memory with }⟩
  simp only [State.bpSkipped]
  split
  · exact hdisarm (h.marked hits)
  · exact hdisarm h

theorem Inv.bpCheckExec : AttemptMeets Inv Inv s.bpCheckExec := by
  have hreact := s.bpReact_meets (s.bpHits .exec s.pc 1) s.pc
  unfold State.bpCheckExec
  split
  · exact h
  split
  · exact h.bpSkipped _
  · cases hb : s.bpReact (s.bpHits .exec s.pc 1) s.pc with
    | done t x =>
      have ht : Checked s t := by rwa [hb] at hreact
      exact h.of_checked ht
    | ended r =>
      have hr : ResultMeets (Stopped s) r := by rwa [hb] at hreact
      exact hr.mono fun _ => h.of_stopped

theorem Inv.instrStep : ResultMeets Inv s.instrStep := by
  have hcheck := h.bpCheckExec
  unfold State.instrStep
  cases hb : s.bpCheckExec with
  | ended r => rwa [hb] at hcheck
  | done t x =>
    have ht : Inv t := by rwa [hb] at hcheck
    exact ht.fetchAndRun

theorem Inv.afterInstr : Inv s.afterInstr := by
  unfold State.afterInstr
  split
  · split
    · exact h.enterDebug _
    · exact ⟨{ h.hart with }, { h.units with }, { h.memory with }⟩
  · exact h

theorem Inv.wake : Inv s.wake := by
  unfold State.wake
  split
  · exact h.of_waiting false _
  · exact h

/-! ### The hart's step -/

theorem Inv.runMode : ResultMeets Inv s.runMode := by
  unfold State.runMode
  split
  · exact .next h
  split
  · exact .next h
  split
  · exact .next (h.trapEntry _ _ _ _)
  · exact h.wake.instrStep.mapNext fun _ => Inv.afterInstr

/-- The reset values meet the invariant, and the memories stay (R570 to R572). -/
theorem Inv.applyReset : Inv s.applyReset := by
  obtain ⟨hart, units, -⟩ := State.resetWith_inv h.hart.legal
  have hreserved : s.debugAfterReset.coreCtrl.hart0Rst = false := by
    simp only [State.debugAfterReset]
    split
    · rfl
    · exact h.units.reserved
  exact ⟨{ hart with }, { units with phase := Timer.disturb_phaseLegal _ _, reserved := hreserved }, { h.memory with }⟩

theorem Inv.holdReset : Inv s.holdReset := by
  unfold State.holdReset
  split
  · exact h.applyReset
  · exact h

theorem Inv.hartStep : ResultMeets Inv s.hartStep := by
  have hleft : Inv { s with inReset := false } := ⟨{ h.hart with }, { h.units with }, { h.memory with }⟩
  unfold State.hartStep
  split
  · exact .next h.applyReset
  split
  · split
    · exact .next (hleft.enterDebug _)
    · exact hleft.runMode
  · exact h.runMode

end

/-! ### The reserved bit of the debugger's registers -/

/-- HART0_Rst, once 0, is 0 (R201, U40). -/
def KeepsReserved (s t : State) : Prop := s.dbgc.coreCtrl.hart0Rst = false → t.dbgc.coreCtrl.hart0Rst = false

section

variable {s t : State}

theorem State.dbgCtrl_keepsReserved {v : Word} (h : s.dbgCtrl v = .ok t) : KeepsReserved s t := by
  unfold State.dbgCtrl State.halt State.resume at h
  dsimp only at h
  repeat' split at h
  all_goals cases h
  all_goals exact id

theorem State.readHartDebug_keepsReserved {index : Nat} (h : s.readHartDebug index = .ok t) : KeepsReserved s t := by
  unfold State.readHartDebug at h
  split at h <;> cases h <;> exact id

theorem State.writeHartDebug_keepsReserved {index : Nat} {v : Word} (h : s.writeHartDebug index v = .ok t) :
    KeepsReserved s t := by
  unfold State.writeHartDebug at h
  repeat' split at h
  all_goals cases h
  all_goals exact id

theorem State.readCoreDebug_keepsReserved {index : Nat} (h : s.readCoreDebug index = .ok t) : KeepsReserved s t := by
  unfold State.readCoreDebug at h
  split at h <;> cases h <;> exact id

/-- A write of CORE_DBG_CTRL leaves HART0_Rst 0, and no other write reaches it (R201). -/
theorem State.writeCoreDebug_keepsReserved {index : Nat} {v : Word} (h : s.writeCoreDebug index v = .ok t) :
    KeepsReserved s t := by
  unfold State.writeCoreDebug at h
  split at h
  · cases h
    exact id
  · split at h <;> cases h
    exact fun _ => rfl
  all_goals cases h
  all_goals exact id

theorem State.readCap_keepsReserved {index : Nat} (h : s.readCap index = .ok t) : KeepsReserved s t := by
  unfold State.readCap at h
  split at h <;> cases h <;> exact id

theorem State.dbgCommand_keepsReserved {opcode : Nat} {v : Word} (h : s.dbgCommand opcode v = .ok t) :
    KeepsReserved s t := by
  unfold State.dbgCommand at h
  split at h
  · exact State.dbgCtrl_keepsReserved h
  all_goals cases h
  all_goals exact id

theorem State.dapCommand_keepsReserved (h : s.dapCommand = .ok t) : KeepsReserved s t := by
  simp only [State.dapCommand] at h
  split at h
  · split at h
    · exact State.writeHartDebug_keepsReserved h
    · exact State.readHartDebug_keepsReserved h
  split at h
  · exact State.dbgCommand_keepsReserved h
  split at h
  · split at h
    · cases h
    · exact State.readCap_keepsReserved h
  split at h
  · split at h
    · exact State.writeCoreDebug_keepsReserved h
    · exact State.readCoreDebug_keepsReserved h
  · cases h

theorem State.scanDr_keepsReserved {v : BitVec 36} (h : s.scanDr v = .ok t) : KeepsReserved s t := by
  unfold State.scanDr State.updateDr at h
  split at h
  · split at h <;> cases h
    exact id
  split at h
  · exact fun hs => State.dapCommand_keepsReserved h hs
  repeat' split at h
  all_goals cases h
  all_goals exact id

theorem State.scanIr_keepsReserved {code : BitVec 4} (h : s.scanIr code = .ok t) : KeepsReserved s t := by
  unfold State.scanIr at h
  split at h <;> cases h
  exact id

/-! ### The host's moves -/

theorem Inv.of_debuggerFrame (h : Inv s) (hf : DebuggerFrame s t) (hr : KeepsReserved s t) : Inv t := by
  obtain ⟨_, _, _, _, rfl⟩ := hf
  exact ⟨{ h.hart with }, { h.units with reserved := hr h.units.reserved }, { h.memory with }⟩

theorem Inv.clk (h : Inv s) (n : Nat) : Inv (s.clk n) := by
  have hphase : (s.clk n).timer.PhaseLegal := by
    unfold State.clk
    dsimp only
    split
    · exact Timer.tick_phaseLegal h.units.phase n _
    · exact h.units.phase
  exact ⟨{ h.hart with }, { h.units with phase := hphase }, { h.memory with }⟩

theorem Inv.rtc (h : Inv s) (n : Nat) : Inv (s.rtc n) := by
  have hphase : (s.rtc n).timer.PhaseLegal := by
    unfold State.rtc
    dsimp only
    split
    · exact h.units.phase
    · exact Timer.tick_phaseLegal h.units.phase n _
  exact h.of_timer hphase

theorem Inv.prefetch (h : Inv s) (a : Word) : Inv (s.prefetch a) := by
  unfold State.prefetch
  split
  · exact h.of_waiting _ _
  · exact h

theorem Inv.move (h : Inv s) {m : HostMove} (ht : m.apply s = .ok t) : Inv t := by
  cases m with
  | clk n =>
    cases ht
    exact h.clk n
  | rtc n =>
    cases ht
    exact h.rtc n
  | prefetch a =>
    cases ht
    exact h.prefetch a
  | scanIr code =>
    simp only [HostMove.apply] at ht
    split at ht
    · exact h.of_debuggerFrame (State.scanIr_debuggerFrame ht) (State.scanIr_keepsReserved ht)
    · cases ht
      exact h
  | scanDr v =>
    simp only [HostMove.apply] at ht
    split at ht
    · exact h.of_debuggerFrame (State.scanDr_debuggerFrame ht) (State.scanDr_keepsReserved ht)
    · cases ht
      exact h
  | irqLines | softIrq | extIrq | syncLines | sampleLines | rstN | tapReset =>
    cases ht
    exact ⟨{ h.hart with }, { h.units with }, { h.memory with }⟩

end

theorem Inv.moves {moves : List HostMove} {s t : State} (h : Inv s) (ht : applyMoves moves s = .ok t) : Inv t := by
  induction moves generalizing s with
  | nil =>
    cases ht
    exact h
  | cons m rest ih =>
    obtain ⟨u, hm, hrest⟩ := applyMoves_cons_ok ht
    have hu : Inv u.holdReset := (h.move hm).holdReset
    refine ih ?_ hrest
    exact ⟨{ hu.hart with }, { hu.units with }, { hu.memory with }⟩

theorem Inv.hostPhase {t : State} (h : Inv t) (moves : List HostMove) : ResultMeets Inv (t.hostPhase moves) := by
  simp only [State.hostPhase]
  split
  · exact .refused _
  · next hmoves =>
    refine .next (Inv.moves ?_ hmoves)
    exact ⟨{ h.hart with }, { h.units with }, { h.memory with }⟩

/-- Settles O14: the hart's step keeps the invariant, and so does every move of the host. -/
theorem everyStepKeepsTheInvariant : Obligations.EveryStepKeepsTheInvariant := by
  intro s t h ht
  have hhart := h.hartStep
  unfold step State.machineStep at ht
  rw [if_pos h.hart.legal] at ht
  cases hs : s.hartStep with
  | next u =>
    rw [hs] at ht
    exact (hhart u hs).hostPhase _ t ht
  | fault e | refused e =>
    rw [hs] at ht
    cases ht

end Sys2Proof.Machine
end

section
/-! # Proofs of the family 10_state: access to the control and status registers (O40, O42, O43) -/

namespace Sys2Proof.Machine

open Sys2Proof

/-! ### The map -/

/-- The CSR at an address is the map's, and its configuration switch is on (R29, R30). -/
theorem csrAt_eq_some {cfg : Config} {a : CsrAddr} {c : Csr} (h : csrAt cfg a = some c) :
    (a, c) ∈ csrTable ∧ c.presentIn cfg = true := by
  unfold csrAt at h
  split at h
  · cases h
  · next p hfind =>
    split at h
    · next hp =>
      cases h
      have ha : p.1 = a := by simpa using List.find?_some hfind
      exact ⟨ha ▸ List.mem_of_find?_eq_some hfind, hp⟩
    · cases h

/-- A CSR whose every address in the map can be written. -/
def Csr.writable (c : Csr) : Bool := csrTable.all fun p => p.2 != c || !csrReadOnly p.1

theorem csrReadOnly_of_writable {cfg : Config} {a : CsrAddr} {c : Csr} (h : csrAt cfg a = some c)
    (hc : c.writable = true) : csrReadOnly a = false := by
  have hall := List.all_eq_true.mp hc _ (csrAt_eq_some h).1
  simpa using hall

theorem Csr.writable_of_isIpic {c : Csr} (h : c.isIpic = true) : c.writable = true := by
  cases c with
  | ipicCisv | ipicCicsr | ipicIpr | ipicIsvr | ipicEoi | ipicSoi | ipicIdx | ipicIcsr => decide
  | _ => cases h

/-! ### Reading -/

/-- A CSR instruction that does not write reads any CSR that exists (R376). -/
theorem State.csrOp_keep {s : State} {rd : Reg} {a : CsrAddr} {inst : Word} {c : Csr} (h : csrAt s.cfg a = some c) :
    s.csrOp rd a .keep inst = .next (s.csrEnd s rd c false) :=
  State.csrOp_access h rfl rfl

/-- A CSR instruction that leaves the state before its end as it was has read only. -/
theorem RegDone.of_csrEnd (s : State) (rd : Reg) {c : Csr} {w : Bool}
    (h : (w && (c == .minstret || c == .minstreth)) = false) :
    RegDone s (s.csrEnd s rd c w) rd (s.readCsr c) (s.pc + 4#32) :=
  ⟨RegResult.of_setReg rfl, rfl, Counted.of_retired (by simp [State.csrEnd, csrInstret, h]), .of_eq rfl rfl rfl, rfl⟩

/-- Settles O40: with a zero source the set and clear forms do not write. -/
theorem csrReadFormsOnlyRead : Obligations.CsrReadFormsOnlyRead := by
  intro s rd a c h
  have hdone {i : Instr} {inst : Word} (hi : exec i s = s.csrOp rd a .keep inst) :
      Answers i s (fun t => RegDone s t rd (s.readCsr c) (s.pc + 4#32)) :=
    ⟨_, hi.trans (State.csrOp_keep h), RegDone.of_csrEnd s rd rfl⟩
  exact ⟨hdone rfl, hdone rfl, hdone rfl, hdone rfl⟩

/-! ### Writes that are ignored -/

/-- The value of a CSR that takes no written bit: every form only reads it. -/
theorem State.csrOp_ignored {s : State} {rd : Reg} {a : CsrAddr} {w : CsrWrite} {inst : Word} {c : Csr}
    (h : csrAt s.cfg a = some c) (hw : c.writable = true) (hi : (w.setsOrClears && c.isIpic) = false)
    (hv : ∀ v, s.writeCsr c v = .ok s) : s.csrOp rd a w inst = .next (s.csrEnd s rd c w.writes) := by
  have hback : ∀ v, s.csrWriteBack c v = .ok s := fun v => by
    cases v with
    | none => rfl
    | some v => exact hv v
  rw [State.csrOp_access h (by simp [csrReadOnly_of_writable h hw]) hi, State.csrAccess, hback]

/-- The four registers whose writes are ignored (R36, R45, R115, R118). -/
theorem State.writeCsr_constant (s : State) {c : Csr} (hc : c = .misa ∨ c = .mip ∨ c = .ipicCisv ∨ c = .ipicIsvr)
    (v : Word) : s.writeCsr c v = .ok s := by
  rcases hc with rfl | rfl | rfl | rfl <;> rfl

theorem Csr.writable_constant {c : Csr} (hc : c = .misa ∨ c = .mip ∨ c = .ipicCisv ∨ c = .ipicIsvr) :
    c.writable = true ∧ (c == .minstret || c == .minstreth) = false := by
  rcases hc with rfl | rfl | rfl | rfl <;> decide

theorem State.csrOp_constant {s : State} {rd : Reg} {a : CsrAddr} {w : CsrWrite} {inst : Word} {c : Csr} {i : Instr}
    (h : csrAt s.cfg a = some c) (hc : c = .misa ∨ c = .mip ∨ c = .ipicCisv ∨ c = .ipicIsvr)
    (hw : (w.setsOrClears && c.isIpic) = false) (hi : exec i s = s.csrOp rd a w inst) :
    Answers i s (fun t => RegDone s t rd (s.readCsr c) (s.pc + 4#32)) := by
  obtain ⟨hwritable, hcount⟩ := Csr.writable_constant hc
  have hop : s.csrOp rd a w inst = .next (s.csrEnd s rd c w.writes) :=
    State.csrOp_ignored h hwritable hw (s.writeCsr_constant hc)
  exact ⟨_, hi.trans hop, RegDone.of_csrEnd s rd (by rw [hcount, Bool.and_false])⟩

/-- MISA as a sum: each bit of the build at its position (R36). -/
theorem Config.misaWord_toNat (c : Config) : (Config.misaWord c).toNat = 2 ^ 30 + 2 ^ 23 * c.misaRvx.toNat +
    2 ^ 12 * c.rvm.toNat + 2 ^ 8 * (!c.rve).toNat + 2 ^ 4 * c.rve.toNat + 2 ^ 2 * c.rvc.toNat := by
  unfold Config.misaWord
  generalize c.misaRvx = x, c.rvm = m, c.rve = e, c.rvc = k
  revert x m e k
  decide

/-- Settles O43: the write leaves the state as it was, so what remains of the instruction is its read. -/
theorem writesToConstantRegistersAreIgnored : Obligations.WritesToConstantRegistersAreIgnored := by
  refine ⟨fun s rd r a c h => ⟨fun hc => ?_, fun hc => ?_⟩, fun s => Config.misaWord_toNat s.cfg⟩
  · have hconst : c = .misa ∨ c = .mip ∨ c = .ipicCisv ∨ c = .ipicIsvr := hc.imp_right .inl
    have hipic (w : CsrWrite) : (w.setsOrClears && c.isIpic) = false := by
      rcases hc with rfl | rfl <;> exact Bool.and_false _
    exact ⟨State.csrOp_constant h hconst (hipic _) rfl, State.csrOp_constant h hconst (hipic _) rfl,
      State.csrOp_constant h hconst (hipic _) rfl, State.csrOp_constant h hconst (hipic _) rfl⟩
  · exact ⟨State.csrOp_constant h hc rfl rfl, State.csrOp_constant h hc rfl rfl⟩

/-! ### Accesses that are not allowed -/

theorem fromReg_of_ne {s : State} {r : Reg} (h : r ≠ 0#5) (f : Word → CsrWrite) :
    fromReg s f r = f (s.reg r) := if_neg h

theorem fromImm_of_ne {r : Reg} (h : r ≠ 0#5) (f : Word → CsrWrite) : fromImm f r = f (zext r) := if_neg h

/-- The set and clear forms that write are "not supported" on an IPIC register (R111, U12). -/
theorem State.csrOp_ipicSetClear {s : State} {rd : Reg} {a : CsrAddr} {w : CsrWrite} {inst : Word} {c : Csr}
    (h : csrAt s.cfg a = some c) (hc : c.isIpic = true) (hw : w.setsOrClears = true) :
    s.csrOp rd a w inst = .refused .ipicSetClear := by
  simp [State.csrOp, h, csrReadOnly_of_writable h (Csr.writable_of_isIpic hc), hc, hw]

/-- Settles O42: each clause is one branch of State.csrOp. -/
theorem csrAccessRules : Obligations.CsrAccessRules := by
  intro s rd r a
  have htraps {i : Instr} {w : CsrWrite} {inst : Word} (hi : exec i s = s.csrOp rd a w inst)
      (h : csrAt s.cfg a = none ∨ (w.writes && csrReadOnly a) = true) : Traps i s 2#4 (some inst) :=
    Traps.of_raise (e := .illegalInstruction) (hi.trans (State.csrOp_illegal h))
  have hwrites {w : CsrWrite} (hw : w.writes = true) (ha : a.extractLsb' 10 2 = 3#2) :
      (w.writes && csrReadOnly a) = true := by
    rw [hw, Bool.true_and]
    exact beq_iff_eq.mpr ha
  refine ⟨fun c hc hipic hr => ?_, fun h => ?_, fun h => ?_⟩
  · refine ⟨State.csrOp_ipicSetClear hc hipic ?_, State.csrOp_ipicSetClear hc hipic ?_,
      State.csrOp_ipicSetClear hc hipic ?_, State.csrOp_ipicSetClear hc hipic ?_⟩
    all_goals simp only [fromReg_of_ne hr, fromImm_of_ne hr, CsrWrite.setsOrClears]
  · exact ⟨htraps rfl (h.imp_right (hwrites rfl)), htraps rfl (h.imp_right (hwrites rfl))⟩
  · refine ⟨htraps rfl (h.imp_right ?_), htraps rfl (h.imp_right ?_), htraps rfl (h.imp_right ?_),
      htraps rfl (h.imp_right ?_)⟩
    all_goals
      rintro ⟨ha, hr⟩
      refine hwrites ?_ ha
      simp only [fromReg_of_ne hr, fromImm_of_ne hr, CsrWrite.writes]

end Sys2Proof.Machine
end

section
/-! # Proofs of the family 10_state: the plain registers and the counters (O41, O44, O45) -/

namespace Sys2Proof.Machine

open Sys2Proof

/-! ### Words assembled from the bits of a word -/

/-- A single bit put back in its place is that bit of the word. -/
theorem put_bit_getLsbD (v : Word) (k : Nat) : (put k (bit (v.getLsbD k)) : Word) = v &&& (1#32 <<< k) := by
  refine BitVec.eq_of_getLsbD_eq fun i hi => ?_
  rcases Nat.lt_trichotomy i k with hlt | rfl | hgt
  · simp [put, bit, hi, hlt]
  · simp [put, bit, hi]
  · have hne : i - k ≠ 0 := by omega
    simp [put, bit, hi, hne]

/-- The low bits of a word. -/
theorem setWidth_extractLsb'_zero (v : Word) (n : Nat) (hn : n ≤ 32) :
    (v.extractLsb' 0 n).setWidth 32 = v &&& BitVec.ofNat 32 (2 ^ n - 1) := by
  have hpow : 2 ^ n ≤ 2 ^ 32 := Nat.pow_le_pow_right (by omega) hn
  have hpos := Nat.two_pow_pos n
  apply BitVec.eq_of_toNat_eq
  have hmod : v.toNat % 2 ^ n < 2 ^ n := Nat.mod_lt _ hpos
  rw [BitVec.toNat_and, BitVec.toNat_ofNat, Nat.mod_eq_of_lt (a := 2 ^ n - 1) (by omega),
    Nat.and_two_pow_sub_one_eq_mod, BitVec.toNat_setWidth, BitVec.extractLsb'_toNat, Nat.shiftRight_zero,
    Nat.mod_eq_of_lt (by omega)]

/-! ### What a write of a plain register makes it read -/

theorem mstatusWord_of_bits (v : Word) : put 11 0b11#2 ||| put 7 (bit (v.getLsbD 7)) ||| put 3 (bit (v.getLsbD 3)) =
    (v &&& 0x00000088#32) ||| 0x00001800#32 := by
  rw [put_bit_getLsbD, put_bit_getLsbD, BitVec.or_assoc, ← BitVec.and_or_distrib_left, BitVec.or_comm]
  rfl

theorem interruptWord_of_bits (v : Word) : interruptWord (v.getLsbD 11) (v.getLsbD 7) (v.getLsbD 3) =
    (v &&& 0x00000888#32) ||| 0#32 := by
  unfold interruptWord
  rw [put_bit_getLsbD, put_bit_getLsbD, put_bit_getLsbD, ← BitVec.and_or_distrib_left, ← BitVec.and_or_distrib_left,
    BitVec.or_zero]
  rfl

theorem mcauseWord_of_bits (v : Word) : put 31 (bit (v.getLsbD 31)) ||| put 0 (v.extractLsb' 0 4) =
    (v &&& 0x8000000F#32) ||| 0#32 := by
  rw [put_bit_getLsbD, put, BitVec.shiftLeft_zero, setWidth_extractLsb'_zero v 4 (by omega),
    ← BitVec.and_or_distrib_left, BitVec.or_zero]
  rfl

theorem mcountenWord_of_bits (v : Word) : put 2 (bit (v.getLsbD 2)) ||| put 0 (bit (v.getLsbD 0)) =
    (v &&& 0x00000005#32) ||| 0#32 := by
  rw [put_bit_getLsbD, put_bit_getLsbD, ← BitVec.and_or_distrib_left, BitVec.or_zero]
  rfl

theorem mepc_of_write (v : Word) : (v &&& 0xFFFFFFFE#32) &&& 0xFFFFFFFE#32 = (v &&& 0xFFFFFFFE#32) ||| 0#32 := by
  rw [BitVec.and_assoc, BitVec.and_self, BitVec.or_zero]

/-- A register of 32 writable bits. -/
theorem word_of_whole (v : Word) : v = (v &&& 0xFFFFFFFF#32) ||| 0#32 := by
  rw [BitVec.or_zero]
  exact BitVec.and_allOnes.symm

/-- MTVEC: MODE is written where vectored mode exists, BASE never (R40). -/
theorem mtvecWord_of_write (s : State) (v : Word) :
    ({ s with mtvecMode := if s.cfg.vectIrqEn then v.extractLsb' 0 2 else s.mtvecMode } : State).mtvecWord =
      (v &&& if s.cfg.vectIrqEn then 0x3#32 else 0#32) ||| (s.cfg.mtvecBase &&& 0xFFFFFFFC#32) := by
  have hlow := setWidth_extractLsb'_zero v 2 (by omega)
  rw [BitVec.or_comm]
  cases hv : s.cfg.vectIrqEn
  · simp [State.mtvecWord, State.mtvecModeNow, State.trapBase, hv]
  · simp [State.mtvecWord, State.mtvecModeNow, State.trapBase, hv, hlow]

/-! ### The nine plain registers -/

/-- The plain registers can be written, in every form, and are no counters. -/
theorem Csr.writable_of_plain {cfg : Config} {c : Csr} (h : (plainCsr cfg c).isSome = true) :
    c.writable = true ∧ c.isIpic = false := by
  cases c with
  | mstatus | mie | mtvec | mscratch | mepc | mcause | mtval | dbgScratch | mcounten => decide
  | _ => cases h

/-- The end of a CSR instruction leaves every plain register as the write made it. -/
theorem State.csrEnd_readCsr_plain (s u : State) (rd : Reg) (c : Csr) (w : Bool) {cfg : Config} {d : Csr}
    (h : (plainCsr cfg d).isSome = true) : (s.csrEnd u rd c w).readCsr d = u.readCsr d := by
  cases d with
  | mstatus | mie | mtvec | mscratch | mepc | mcause | mtval | dbgScratch | mcounten => rfl
  | _ => cases h

/-- The written register reads its writable bits from the written word (R35 to R44, R51, R52). -/
theorem State.readCsr_writeCsr_same {s u : State} {c : Csr} {mask fixed v : Word}
    (h : plainCsr s.cfg c = some (mask, fixed)) (hu : s.writeCsr c v = .ok u) :
    u.readCsr c = (v &&& mask) ||| fixed := by
  cases c with
  | mstatus =>
    cases h
    cases hu
    exact mstatusWord_of_bits v
  | mie =>
    cases h
    cases hu
    exact interruptWord_of_bits v
  | mtvec =>
    cases h
    cases hu
    exact mtvecWord_of_write s v
  | mepc =>
    cases h
    cases hu
    exact mepc_of_write v
  | mcause =>
    cases h
    cases hu
    exact mcauseWord_of_bits v
  | mcounten =>
    cases h
    cases hu
    exact mcountenWord_of_bits v
  | mscratch | mtval | dbgScratch =>
    cases h
    cases hu
    exact word_of_whole v
  | _ => cases h

/-- The fields of the other plain registers are not written. -/
theorem State.readCsr_writeCsr_ne {s u : State} {c d : Csr} {v : Word} (h : (plainCsr s.cfg c).isSome = true)
    (hd : (plainCsr s.cfg d).isSome = true) (hne : d ≠ c) (hu : s.writeCsr c v = .ok u) :
    u.readCsr d = s.readCsr d := by
  cases c with
  | mstatus | mie | mtvec | mscratch | mepc | mcause | mtval | dbgScratch | mcounten =>
    cases hu
    cases d with
    | mstatus | mie | mtvec | mscratch | mepc | mcause | mtval | dbgScratch | mcounten =>
      -- the written register itself is excluded; no other reads a field that the write changes
      first
      | exact absurd rfl hne
      | rfl
    | _ => cases hd
  | _ => cases h

/-- What a CSR instruction that writes a plain register leaves. -/
theorem CsrPlainDone.of_writeCsr {s : State} {c : Csr} {mask fixed : Word}
    (h : plainCsr s.cfg c = some (mask, fixed)) (rd : Reg) (v : Word) :
    ∃ u, s.writeCsr c v = .ok u ∧ CsrPlainDone s (s.csrEnd u rd c true) rd c v mask fixed := by
  have hc : (plainCsr s.cfg c).isSome = true := Option.isSome_of_eq_some h
  have hwritten {u : State} (hu : s.writeCsr c v = .ok u) : (s.csrEnd u rd c true).readCsr c = (v &&& mask) ||| fixed :=
    (s.csrEnd_readCsr_plain u rd c true hc).trans (State.readCsr_writeCsr_same h hu)
  have hothers {u : State} (hu : s.writeCsr c v = .ok u) (d : Csr) (hd : (plainCsr s.cfg d).isSome = true)
      (hne : d ≠ c) : (s.csrEnd u rd c true).readCsr d = s.readCsr d :=
    (s.csrEnd_readCsr_plain u rd c true hd).trans (State.readCsr_writeCsr_ne hc hd hne hu)
  cases c with
  | mstatus | mie | mtvec | mscratch | mepc | mcause | mtval | dbgScratch | mcounten =>
    exact ⟨_, rfl, .of_csrEnd rfl rfl rfl rfl, .of_csrEnd rfl, hwritten rfl, hothers rfl, rfl⟩
  | _ => cases h

/-- Settles O41: the instructions that write are those of csrWriteShape. -/
theorem csrWritesReachWritableBitsOnly : Obligations.CsrWritesReachWritableBitsOnly := by
  intro s rd rs1 zimm a c mask fixed hc hplain
  obtain ⟨hwritable, hipic⟩ := Csr.writable_of_plain (Option.isSome_of_eq_some hplain)
  have hdone {i : Instr} {f : CsrShape} (hf : csrWriteShape s i = some f) (ha : f.addr = a) :
      Answers i s (fun t => CsrPlainDone s t f.rd c (f.new (s.readCsr c)) mask fixed) := by
    subst ha
    obtain ⟨u, hu, hd⟩ := CsrPlainDone.of_writeCsr hplain f.rd (f.new (s.readCsr c))
    exact ⟨_, next_of_csrWriteShape hf hc (csrReadOnly_of_writable hc hwritable) hipic hu, hd⟩
  exact ⟨hdone (i := .csrrw rd a rs1) rfl rfl, hdone (i := .csrrwi rd a zimm) rfl rfl,
    fun hr => ⟨hdone (i := .csrrs rd a rs1) (if_neg hr) rfl, hdone (i := .csrrc rd a rs1) (if_neg hr) rfl⟩,
    fun hr => ⟨hdone (i := .csrrsi rd a zimm) (if_neg hr) rfl, hdone (i := .csrrci rd a zimm) (if_neg hr) rfl⟩⟩

/-! ### The halves of a counter -/

theorem lowWord_toNat (d : DWord) : (lowWord d).toNat = d.toNat % 2 ^ 32 := by
  simp [lowWord]

theorem highWord_toNat (d : DWord) : (highWord d).toNat = d.toNat / 2 ^ 32 := by
  have hd := d.isLt
  rw [highWord, BitVec.extractLsb'_toNat, Nat.shiftRight_eq_div_pow, Nat.mod_eq_of_lt (by omega)]

/-- Two halves side by side. -/
theorem put_halves_toNat (hi lo : Word) : (put 32 hi ||| put 0 lo : DWord).toNat = hi.toNat * 2 ^ 32 + lo.toNat := by
  have hhi : (put 32 hi : DWord).toNat = hi.toNat * 2 ^ 32 := by
    have h := hi.isLt
    rw [put, BitVec.toNat_shiftLeft, BitVec.toNat_setWidth, Nat.shiftLeft_eq, Nat.mod_eq_of_lt (by omega),
      Nat.mod_eq_of_lt (by omega)]
  have hdvd : 2 ^ (0 + 32) ∣ (put 32 hi : DWord).toNat := hhi ▸ Nat.dvd_mul_left _ _
  rw [(toNat_or_put hdvd (by omega)).1, hhi]
  omega

theorem setLow_toNat (d : DWord) (v : Word) : (setLow d v).toNat = d.toNat / 2 ^ 32 * 2 ^ 32 + v.toNat := by
  rw [setLow, put_halves_toNat, ← highWord_toNat]
  rfl

theorem setHigh_toNat (d : DWord) (v : Word) : (setHigh d v).toNat = v.toNat * 2 ^ 32 + d.toNat % 2 ^ 32 := by
  rw [setHigh, put_halves_toNat, ← lowWord_toNat]
  rfl

/-- An access to a counter sees its value, or one more while it runs (U10). -/
theorem seenCounter_cases (running free : Bool) (d : DWord) :
    seenCounter running free d = d ∨ running = true ∧ seenCounter running free d = d + 1#64 := by
  cases running <;> cases free <;> simp [seenCounter]

theorem seenInstret_cases (s : State) (free : Bool) (d : DWord) :
    seenCounter s.countsInstret free d = d ∨ CountingOn s ∧ seenCounter s.countsInstret free d = d + 1#64 :=
  (seenCounter_cases _ _ _).imp_right (And.imp_left (countsInstret_iff s).mp)

/-- Settles O45: both halves and both mirrors are of the one value that an access sees. -/
theorem counterReadsGiveHalves : Obligations.CounterReadsGiveHalves := by
  intro s
  exact ⟨⟨s.cycleSeen, seenCounter_cases _ _ _, lowWord_toNat _, highWord_toNat _, rfl, rfl⟩,
    ⟨s.instretSeen, seenInstret_cases s _ _, lowWord_toNat _, highWord_toNat _, rfl, rfl⟩, lowWord_toNat _,
    highWord_toNat _⟩

/-! ### Writes of a counter -/

/-- The addresses of the four halves (R30). -/
theorem csrAt_counters {cfg : Config} (h : cfg.cntCsrsPresent = true) :
    csrAt cfg 0xB00#12 = some .mcycle ∧ csrAt cfg 0xB80#12 = some .mcycleh ∧
      csrAt cfg 0xB02#12 = some .minstret ∧ csrAt cfg 0xB82#12 = some .minstreth := by
  simp [csrAt, csrTable, Csr.presentIn, h]

/-- A write of a half of a counter answers the end of the instruction in the state with the counter written. -/
theorem next_of_counterWrite {s u : State} {i : Instr} {f : CsrShape} {c : Csr} (hf : csrWriteShape s i = some f)
    (hc : csrAt s.cfg f.addr = some c) (hcounter : c.writable = true ∧ c.isIpic = false)
    (hu : s.writeCsr c (f.new (s.readCsr c)) = .ok u) : exec i s = .next (s.csrEnd u f.rd c true) :=
  next_of_csrWriteShape hf hc (csrReadOnly_of_writable hc hcounter.1) hcounter.2 hu

/-- Settles O44: the counter is what an access sees of the new and the kept half. -/
theorem counterWritesReplaceOneHalf : Obligations.CounterWritesReplaceOneHalf := by
  intro s i f hf hpresent
  obtain ⟨hmcycle, hmcycleh, hminstret, hminstreth⟩ := csrAt_counters hpresent
  refine ⟨fun ha => ?_, fun ha => ?_, fun ha => ?_, fun ha => ?_⟩
  · refine ⟨_, next_of_counterWrite hf (ha ▸ hmcycle) (by decide) rfl, setLow s.mcycle _, setLow_toNat _ _, ?_⟩
    exact ⟨seenCounter_cases _ _ _, .of_csrEnd rfl rfl rfl rfl, .of_csrEnd rfl, rfl⟩
  · refine ⟨_, next_of_counterWrite hf (ha ▸ hmcycleh) (by decide) rfl, setHigh s.mcycle _, setHigh_toNat _ _, ?_⟩
    exact ⟨seenCounter_cases _ _ _, .of_csrEnd rfl rfl rfl rfl, .of_csrEnd rfl, rfl⟩
  · refine ⟨_, next_of_counterWrite hf (ha ▸ hminstret) (by decide) rfl, setLow s.minstret _, setLow_toNat _ _, ?_⟩
    exact ⟨seenInstret_cases s _ _, .of_csrEnd rfl rfl rfl rfl, rfl⟩
  · refine ⟨_, next_of_counterWrite hf (ha ▸ hminstreth) (by decide) rfl, setHigh s.minstret _, setHigh_toNat _ _, ?_⟩
    exact ⟨seenInstret_cases s _ _, .of_csrEnd rfl rfl rfl rfl, rfl⟩

end Sys2Proof.Machine
end

section
/-! # Proofs of the family 10_state: the debugger's commands and the state after reset (O11, O57) -/

namespace Sys2Proof.Machine

open Sys2Proof

/-! ### A scan of DAP_OPCODE and DAP_DATA -/

/-- The state in which a scanned command is carried out: the DAP registers take it, the status bits are free (R182,
R189, R202). -/
def State.dapScanned (s : State) (op : BitVec 4) (v : Word) : State :=
  { s with
    tapc := { s.tapc with captured := s.captureDr }
    dbgc := { s.dbgc with
      dapOpcode := op
      dapData := v
      dapOpStatus := Config.freeDapStatus s.freeIdx
      coreSts := { s.dbgc.coreSts with ready := Config.freeReady s.freeIdx } } }

theorem dapFields_of_scan (op : BitVec 4) (v : Word) :
    (put 32 op ||| put 0 v : BitVec 36).extractLsb' 32 4 = op ∧
      (put 32 op ||| put 0 v : BitVec 36).extractLsb' 0 32 = v := by
  constructor
  · refine BitVec.eq_of_getLsbD_eq fun i hi => ?_
    have hlt : 32 + i < 36 := by omega
    simp [put, hi, hlt]
  · refine BitVec.eq_of_getLsbD_eq fun i hi => ?_
    have hlt : i < 36 := by omega
    simp [put, hi, hlt]

/-- With the debug subsystem there and its IR code selected, the scan gives the command. -/
theorem HostMove.apply_dapScan {s : State} (hen : s.cfg.dbgcEn = true) (hir : s.tapc.ir = 0b1000#4) (op : BitVec 4)
    (v : Word) : (HostMove.scanDr (put 32 op ||| put 0 v)).apply s = (s.dapScanned op v).dapCommand := by
  obtain ⟨hop, hdata⟩ := dapFields_of_scan op v
  have hother : ¬ s.tapc.ir = 0b0110#4 := by
    rw [hir]
    decide
  have hscan : (HostMove.scanDr (put 32 op ||| put 0 v)).apply s = s.scanDr (put 32 op ||| put 0 v) := if_pos hen
  rw [hscan, State.scanDr, State.updateDr, if_neg hother, if_pos hir, hop, hdata]
  rfl

/-- HART[0], REGTRANS: a register is written (R185, R186). -/
theorem State.dapCommand_writeHart {s : State} {index : Nat} (hc : s.dbgc.dapContext = 0b0000#4)
    (hw : s.dbgc.dapOpcode.getLsbD 3 = true) (hi : (s.dbgc.dapOpcode.extractLsb' 0 3).toNat = index) :
    s.dapCommand = s.writeHartDebug index s.dbgc.dapData := by
  simp [State.dapCommand, hc, hw, hi]

/-- HART[0], DBGCMD: a command is given (R185, R187). -/
theorem State.dapCommand_dbgCommand {s : State} (hc : s.dbgc.dapContext = 0b0001#4) :
    s.dapCommand = s.dbgCommand s.dbgc.dapOpcode.toNat s.dbgc.dapData := by
  simp [State.dapCommand, hc]

/-! ### The commands -/

theorem State.dbgCtrl_halt {s : State} (h : s.dbgc.dmode = false) : s.dbgCtrl 1#32 = .ok (s.enterDebug .halt) := by
  simp [State.dbgCtrl, State.halt, h]

theorem State.dbgCtrl_resume {s : State} (h : s.dbgc.dmode = true) :
    s.dbgCtrl 2#32 = .ok { s with dbgc := { s.dbgc with dmode := false, resumed := true } } := by
  simp [State.dbgCtrl, State.resume, h]

/-- UNLOCK clears the Lock bit of DAP_OPSTATUS (R187, R189). -/
theorem State.dapUnlock_lock (s : State) : s.dapUnlock.dbgc.dapOpStatus.getLsbD 2 = false := by
  simp [State.dapUnlock]

/-- Settles O57: each clause is one command, in the state that the scan has made. -/
theorem debuggerCommands : Obligations.DebuggerCommands := by
  intro s v hen hir
  simp only [HostMove.apply_dapScan hen hir]
  refine ⟨fun hc => ?_, fun hc hd => ?_, fun hc hd => ?_, fun hc => ?_⟩
  · have hwrite : (0b1101#4).getLsbD 3 = true ∧ ((0b1101#4).extractLsb' 0 3).toNat = 5 := by decide
    refine ⟨_, State.dapCommand_writeHart (s := s.dapScanned _ v) hc hwrite.1 hwrite.2, ?_⟩
    exact ⟨rfl, rfl, rfl, rfl, .of_eq rfl rfl rfl⟩
  · refine ⟨_, (State.dapCommand_dbgCommand (s := s.dapScanned _ _) hc).trans (State.dbgCtrl_halt hd), ?_⟩
    exact ⟨rfl, rfl, rfl, rfl, rfl, rfl, rfl, rfl, .of_eq rfl rfl rfl⟩
  · refine ⟨_, (State.dapCommand_dbgCommand (s := s.dapScanned _ _) hc).trans (State.dbgCtrl_resume hd), ?_⟩
    exact ⟨rfl, rfl, rfl, .of_eq rfl rfl rfl⟩
  · refine ⟨_, State.dapCommand_dbgCommand (s := s.dapScanned _ v) hc, rfl, ?_, rfl, rfl, rfl, .of_eq rfl rfl rfl⟩
    exact State.dapUnlock_lock _

/-! ### The state after reset -/

/-- The hart, its CSRs and the timer after reset (R62, R571). -/
theorem State.reset_values : AtReset State.reset where
  pc := rfl
  regs := fun r => by simp [State.reg, State.reset, State.resetWith]
  mstatus := by decide
  mie := by decide
  mtvec := by decide
  mscratch := rfl
  mepc := by decide
  mcause := by decide
  mtval := rfl
  mcycle := rfl
  minstret := rfl
  mtime := rfl
  mtimecmp := rfl
  clkset := by decide
  phase := by decide
  dbgScratch := rfl
  mcounten := by decide
  awake := rfl
  queue := rfl
  runMode := rfl

/-- The debug registers after reset (R205). -/
theorem State.reset_debugWords :
    State.reset.dbgc.hartCtrlWord = 0#32 ∧ State.reset.hartStsWord = 0x30#32 ∧ State.reset.dbgc.dmodeEnblWord = 0#32 ∧
      State.reset.dbgc.dmodeCauseWord = 0#32 ∧ State.reset.dbgc.coreCtrlWord = 0#32 ∧
      State.reset.coreStsWord = 0xC0#32 ∧ targetIdValue State.reset.cfg = 0x01801000#32 := by
  decide

/-- What reads 0 or a constant of the default configuration after reset (R36, R62). -/
theorem State.reset_constants :
    State.reset.readCsr .mtvec = 0x1C0#32 ∧ State.reset.readCsr .mip = 0#32 ∧ State.reset.readCsr .time = 0#32 ∧
      State.reset.readCsr .timeh = 0#32 ∧
      State.reset.readCsr .misa =
        0x40001104#32 ||| (if State.reset.cfg.misaRvx = true then 0x00800000#32 else 0#32) := by
  decide

/-- Settles O11: State.reset is one fixed state, and each register is read off it. -/
theorem resetStateValues : Obligations.ResetStateValues := by
  obtain ⟨hmtvec, hmip, htime, htimeh, hmisa⟩ := State.reset_constants
  obtain ⟨hctrl, hsts, henbl, hcause, hcoreCtrl, hcoreSts, htarget⟩ := State.reset_debugWords
  exact ⟨State.reset_values, rfl, hmtvec, hmip, rfl, rfl, rfl, rfl, htime, htimeh, rfl, rfl, rfl, rfl, hmisa, hctrl,
    hsts, henbl, hcause, rfl, rfl, hcoreCtrl, hcoreSts, rfl, htarget, fun _ => ⟨rfl, rfl, rfl⟩, rfl, rfl⟩

end Sys2Proof.Machine
end

section
/-! # Proofs of the family 11_state: words made of fields

A register read as fields at their positions is, as a number, the sum of its fields. -/

namespace Sys2Proof.Machine

open Sys2Proof

/-- The fields of the word stand at bit `lo` and above, and `sum` is their value. -/
structure FieldsFrom (x : Word) (lo sum : Nat) : Prop where
  value : x.toNat = sum
  low : 2 ^ lo ∣ x.toNat

/-- The next field goes below those that are there. -/
theorem FieldsFrom.or {x : Word} {lo sum n : Nat} (hx : FieldsFrom x lo sum) (k : Nat) (v : BitVec n)
    (hlo : k + n ≤ lo := by omega) (hw : k + n ≤ 32 := by omega) :
    FieldsFrom (x ||| put k v) k (sum + 2 ^ k * v.toNat) := by
  have hdvd : 2 ^ (k + n) ∣ x.toNat := (Nat.pow_dvd_pow 2 hlo).trans hx.low
  obtain ⟨hvalue, hlow⟩ := toNat_or_put (v := v) hdvd hw
  exact ⟨hx.value ▸ hvalue, hlow⟩

/-- The top field. -/
theorem FieldsFrom.top {n : Nat} (k : Nat) (v : BitVec n) (hw : k + n ≤ 32 := by omega) :
    FieldsFrom (put k v) k (2 ^ k * v.toNat) := by
  have hzero : FieldsFrom 0#32 (k + n) 0 := ⟨rfl, Nat.dvd_zero _⟩
  simpa using hzero.or k v

/-- MTIMECLKSET (R103). -/
theorem Timer.clkset_toNat (x : Timer) :
    x.clkset.toNat = x.coef.toNat + 2 ^ 16 * x.clksel.toNat + 2 ^ 17 * x.en.toNat := by
  have hfields := ((FieldsFrom.top 17 (bit x.en)).or 16 (bit x.clksel)).or 0 x.coef
  rw [Timer.clkset, hfields.value, bit_toNat, bit_toNat]
  omega

end Sys2Proof.Machine
end

section
/-! # Proofs of the family 11_state: the timer's registers and the accesses that end by name (O28, O30, O31, O32)

Where an access leads decides what it does. The lemmas about dataPlace say that once, for loads and stores alike. -/

namespace Sys2Proof.Machine

open Sys2Proof

/-! ### The instructions by their shapes -/

/-- How a load of this shape widens what it read (R350 to R355). -/
def LoadShape.widen (f : LoadShape) : Widen :=
  match f.ext with
  | .unsigned => .unsigned
  | .signed => if f.size = 1 then .signedByte else .signedHalf

theorem exec_loadShape {s : State} {i : Instr} {f : LoadShape} (h : loadShape s i = some f) :
    exec i s = s.load f.rd f.addr f.size f.widen f.len := by
  cases i with
  | lb | lh | lw | lbu | lhu | cLw | cLwsp =>
    cases h
    rfl
  | _ => cases h

theorem exec_storeShape {s : State} {i : Instr} {f : StoreShape} (h : storeShape s i = some f) :
    exec i s = s.store f.addr f.size f.value f.len := by
  cases i with
  | sb | sh | sw | cSw | cSwsp =>
    cases h
    rfl
  | _ => cases h

/-- The word loads keep the value as it is (R353). -/
theorem loadShape_widen_word {s : State} {i : Instr} {f : LoadShape} (h : loadShape s i = some f) (hn : f.size = 4) :
    f.widen = .unsigned := by
  cases i with
  | lb | lh =>
    cases h
    cases hn
  | lw | lbu | lhu | cLw | cLwsp =>
    cases h
    rfl
  | _ => cases h

/-! ### Where an access leads -/

section

variable {c : Config} {k : AccessKind} {a : Word} {n : Nat}

theorem dataPlace_misaligned (h : a.toNat % n ≠ 0) : dataPlace c k a n = .misaligned := by
  simp [dataPlace, misaligned, h]

theorem dataPlace_noAnswer (h : GetsNoAnswer c k a n) : dataPlace c k a n = .noAnswer := by
  obtain ⟨haligned, ⟨htimer, hsize⟩ | ⟨htimer, htcm, hbus⟩⟩ := h
  · simp [dataPlace, misaligned, haligned, htimer, hsize]
  · simp [dataPlace, misaligned, haligned, htimer, htcm, hbus]

theorem dataPlace_timer {off : Nat} (h : GoesToTimer c a off) : dataPlace c k a 4 = .timer off := by
  obtain ⟨haligned, hwindow, rfl, hregister⟩ := h
  have hreg : timerRegister (c.timerOffset a) = true := by simpa [timerRegister, or_assoc] using hregister
  simp [dataPlace, misaligned, haligned, hwindow, hreg]

theorem dataPlace_timerHole (ha : a.toNat % 4 = 0) (hwindow : c.inTimer a = true)
    (hreg : timerRegister (c.timerOffset a) = false) : dataPlace c k a 4 = .timerHole := by
  simp [dataPlace, misaligned, ha, hwindow, hreg]

theorem dataPlace_tcmBeyond (ha : a.toNat % n = 0) (htimer : c.inTimer a = false) (htcm : c.inTcm a = true)
    (hsize : c.tcmSize < c.tcmOffset a + n) : dataPlace c k a n = .tcmBeyond := by
  simp [dataPlace, misaligned, ha, htimer, htcm, hsize]

theorem dataPlace_device (ha : a.toNat % n = 0) (htimer : c.inTimer a = false) (htcm : c.inTcm a = false)
    (hbus : c.dataAccessible a.toNat n k = true) (hdevice : c.isDevice a.toNat n = true) :
    dataPlace c k a n = .device := by
  simp [dataPlace, misaligned, ha, htimer, htcm, hbus, hdevice]

end

/-! ### What a place does to the access -/

/-- How an access to the place ends the instruction without a trap: nothing is stated of the place (R104, R237,
R239). -/
def Place.stop : Place → Option Result
  | .timerHole => some (.fault .timerReservedOffset)
  | .tcmBeyond => some (.fault .tcmBeyondSize)
  | .device => some (.refused .deviceAccess)
  | .misaligned | .noAnswer | .timer _ | .tcm _ | .ext _ => none

section

variable {s : State} {i : Instr} {f : LoadShape} (hf : loadShape s i = some f)
  (hq : s.bpQuiet .load f.addr f.size = true)
include hf hq

theorem exec_load_misaligned (hp : dataPlace s.cfg .load f.addr f.size = .misaligned) :
    exec i s = s.raise .loadAddrMisaligned f.addr := by
  rw [exec_loadShape hf, State.load, State.memRead_quiet hq, hp]

theorem exec_load_noAnswer (hp : dataPlace s.cfg .load f.addr f.size = .noAnswer) :
    exec i s = s.raise .loadAccessFault f.addr := by
  rw [exec_loadShape hf, State.load, State.memRead_quiet hq, hp]

theorem exec_load_timer {off : Nat} (hp : dataPlace s.cfg .load f.addr f.size = .timer off) :
    exec i s = s.finish f.rd (f.widen.apply (s.timer.read off)) f.len := by
  rw [exec_loadShape hf, State.load, State.memRead_quiet hq, hp]

theorem exec_load_stop {r : Result} (hp : (dataPlace s.cfg .load f.addr f.size).stop = some r) : exec i s = r := by
  rw [exec_loadShape hf, State.load, State.memRead_quiet hq]
  cases hplace : dataPlace s.cfg .load f.addr f.size <;> rw [hplace] at hp <;> cases hp <;> rfl

end

section

variable {s : State} {i : Instr} {f : StoreShape} (hf : storeShape s i = some f)
  (hq : s.bpQuiet .store f.addr f.size = true)
include hf hq

theorem exec_store_misaligned (hp : dataPlace s.cfg .store f.addr f.size = .misaligned) :
    exec i s = s.raise .storeAddrMisaligned f.addr := by
  rw [exec_storeShape hf, State.store, State.memWrite_quiet hq, hp]

theorem exec_store_noAnswer (hp : dataPlace s.cfg .store f.addr f.size = .noAnswer) :
    exec i s = s.raise .storeAccessFault f.addr := by
  rw [exec_storeShape hf, State.store, State.memWrite_quiet hq, hp]

theorem exec_store_timer {off : Nat} (hp : dataPlace s.cfg .store f.addr f.size = .timer off) :
    exec i s = .next ((s.storeTimer off f.value).complete f.len) := by
  rw [exec_storeShape hf, State.store, State.memWrite_quiet hq, hp]

theorem exec_store_stop {r : Result} (hp : (dataPlace s.cfg .store f.addr f.size).stop = some r) : exec i s = r := by
  rw [exec_storeShape hf, State.store, State.memWrite_quiet hq]
  cases hplace : dataPlace s.cfg .store f.addr f.size <;> rw [hplace] at hp <;> cases hp <;> rfl

end

/-! ### The timer's registers -/

/-- The value that a read gives (R100 to R103, R105). -/
theorem Timer.read_toNat (x : Timer) (off : Nat) : (x.read off).toNat = timerValue x off := by
  unfold Timer.read timerValue
  repeat' split
  · exact lowWord_toNat _
  · exact highWord_toNat _
  · exact lowWord_toNat _
  · exact highWord_toNat _
  · exact x.clkset_toNat

/-- Settles O28: the place is the timer's register, and a word load keeps its value. -/
theorem timerLoadResults : Obligations.TimerLoadResults := by
  intro s i f off hf hsize hq hgoes
  have hplace : dataPlace s.cfg .load f.addr f.size = .timer off := hsize ▸ dataPlace_timer hgoes
  have hvalue : f.widen.apply (s.timer.read off) = BitVec.ofNat 32 (timerValue s.timer off) := by
    rw [loadShape_widen_word hf hsize, ← Timer.read_toNat, BitVec.ofNat_toNat, BitVec.setWidth_eq]
    rfl
  exact ⟨_, exec_load_timer hf hq hplace, hvalue ▸ RegDone.of_finish s f.rd _ f.len⟩

/-! ### Writing the timer's registers -/

theorem setLow_low (d : DWord) (v : Word) : (setLow d v).toNat % 2 ^ 32 = v.toNat := by
  have hv := v.isLt
  rw [setLow_toNat]
  omega

theorem setLow_high (d : DWord) (v : Word) : (setLow d v).toNat / 2 ^ 32 = d.toNat / 2 ^ 32 := by
  have hv := v.isLt
  rw [setLow_toNat]
  omega

theorem setHigh_low (d : DWord) (v : Word) : (setHigh d v).toNat % 2 ^ 32 = d.toNat % 2 ^ 32 := by
  rw [setHigh_toNat]
  omega

theorem setHigh_high (d : DWord) (v : Word) : (setHigh d v).toNat / 2 ^ 32 = v.toNat := by
  rw [setHigh_toNat]
  omega

/-- MTIMECLKSET keeps 18 bits of the word: COEF, CLKSEL and EN (R103). -/
theorem clkset_fields_toNat (v : Word) :
    (v.extractLsb' 0 16).toNat + 2 ^ 16 * (v.getLsbD 16).toNat + 2 ^ 17 * (v.getLsbD 17).toNat =
      v.toNat % 2 ^ 18 := by
  have hclksel : (v.getLsbD 16).toNat = v.toNat / 2 ^ 16 % 2 := Nat.toNat_testBit _ _
  have hen : (v.getLsbD 17).toNat = v.toNat / 2 ^ 17 % 2 := Nat.toNat_testBit _ _
  rw [hclksel, hen, BitVec.extractLsb'_toNat, Nat.shiftRight_zero]
  omega

/-- A store into a timer register writes that register and leaves the other four (R101 to R105). -/
theorem TimerStored.of_write (x : Timer) {off : Nat} (h : off = 0 ∨ off = 4 ∨ off = 8 ∨ off = 12 ∨ off = 16)
    (v : Word) (free : Nat) : TimerStored x (x.write off v free) off v := by
  rcases h with rfl | rfl | rfl | rfl | rfl
  · -- MTIME
    refine ⟨setLow_low _ v, ?_, by omega, fun _ _ => Timer.disturb_phaseLegal _ free⟩
    rintro o (rfl | rfl | rfl | rfl | rfl) hne
    · exact absurd rfl hne
    · exact setLow_high _ v
    all_goals rfl
  · -- MTIMEH
    refine ⟨setHigh_high _ v, ?_, by omega, fun _ _ => Timer.disturb_phaseLegal _ free⟩
    rintro o (rfl | rfl | rfl | rfl | rfl) hne
    · exact setHigh_low _ v
    · exact absurd rfl hne
    all_goals rfl
  · -- MTIMECMP
    refine ⟨setLow_low _ v, ?_, fun _ => rfl, fun hne => absurd rfl hne⟩
    rintro o (rfl | rfl | rfl | rfl | rfl) hne
    · rfl
    · rfl
    · exact absurd rfl hne
    · exact setLow_high _ v
    · rfl
  · -- MTIMECMPH
    refine ⟨setHigh_high _ v, ?_, fun _ => rfl, fun _ hne => absurd rfl hne⟩
    rintro o (rfl | rfl | rfl | rfl | rfl) hne
    · rfl
    · rfl
    · exact setHigh_low _ v
    · exact absurd rfl hne
    · rfl
  · -- MTIMECLKSET
    refine ⟨clkset_fields_toNat v, ?_, by omega, fun _ _ => Timer.disturb_phaseLegal _ free⟩
    rintro o (rfl | rfl | rfl | rfl | rfl) hne
    · rfl
    · rfl
    · rfl
    · rfl
    · exact absurd rfl hne

/-- Settles O30: the place is the timer's register, and the store goes there. -/
theorem timerStoreResults : Obligations.TimerStoreResults := by
  intro s i f off hf hsize hq hgoes
  have hplace : dataPlace s.cfg .store f.addr f.size = .timer off := hsize ▸ dataPlace_timer hgoes
  exact ⟨_, exec_store_timer hf hq hplace, .of_write s.timer hgoes.register f.value _, fun _ => rfl, rfl,
    .of_retired rfl, .of_eq rfl rfl rfl, rfl⟩

/-! ### The accesses that do not complete -/

/-- Settles O31: the places .misaligned and .noAnswer raise. -/
theorem failingAccessesRaise : Obligations.FailingAccessesRaise := by
  refine fun s i => ⟨fun f hf hq => ⟨fun h => ?_, fun h => ?_⟩, fun f hf hq => ⟨fun h => ?_, fun h => ?_⟩⟩
  · exact Traps.of_raise (e := .loadAddrMisaligned) (exec_load_misaligned hf hq (dataPlace_misaligned h))
  · exact Traps.of_raise (e := .loadAccessFault) (exec_load_noAnswer hf hq (dataPlace_noAnswer h))
  · exact Traps.of_raise (e := .storeAddrMisaligned) (exec_store_misaligned hf hq (dataPlace_misaligned h))
  · exact Traps.of_raise (e := .storeAccessFault) (exec_store_noAnswer hf hq (dataPlace_noAnswer h))

/-- Settles O32: for loads and stores alike the place stops the instruction. -/
theorem undefinedPlacesStopByName : Obligations.UndefinedPlacesStopByName := by
  intro s i k a n hshape hq ha
  obtain ⟨k', hstop⟩ : ∃ k', ∀ r, (dataPlace s.cfg k' a n).stop = some r → exec i s = r := by
    rcases hshape with ⟨f, hf, rfl, rfl, rfl⟩ | ⟨f, hf, rfl, rfl, rfl⟩
    · exact ⟨.load, fun _ => exec_load_stop hf hq⟩
    · exact ⟨.store, fun _ => exec_store_stop hf hq⟩
  refine ⟨fun htimer hn hreg => hstop _ ?_, fun htimer htcm hsize => hstop _ ?_,
    fun htimer htcm hdevice hload hstore => hstop _ ?_⟩
  · subst hn
    rw [dataPlace_timerHole ha htimer hreg, Place.stop]
  · rw [dataPlace_tcmBeyond ha htimer htcm hsize, Place.stop]
  · have hbus : s.cfg.dataAccessible a.toNat n k' = true := by
      cases k'
      · exact hload
      · exact hstore
    rw [dataPlace_device ha htimer htcm hbus hdevice, Place.stop]

end Sys2Proof.Machine
end

section
/-! # Proofs of the family 11_state: the interrupt controller's request and reads (O46)

The bits of its vectors one by one, and the lowest set bit as a minimum. -/

namespace Sys2Proof.Machine

open Sys2Proof

/-! ### The lowest set bit (R110, R112) -/

/-- `k` is the least set bit of `b` from `lo` on, or the void vector 16 where there is none. -/
structure LeastSetFrom (b : BitVec 16) (lo k : Nat) : Prop where
  ge : lo ≤ k
  le : k ≤ 16
  below : ∀ v, lo ≤ v → v < k → b.getLsbD v = false
  set : k < 16 → b.getLsbD k = true

theorem lowestFrom_least (b : BitVec 16) {n : Nat} (hn : n ≤ 16) : LeastSetFrom b (16 - n) (lowestFrom b n) := by
  induction n with
  | zero =>
    have hvoid : lowestFrom b 0 = 16 := rfl
    exact ⟨by omega, by omega, fun v _ _ => by omega, fun h => by omega⟩
  | succ n ih =>
    have hstart : 16 - (n + 1) = 15 - n := by omega
    unfold lowestFrom
    split
    · next hset => exact ⟨by omega, by omega, fun v _ _ => by omega, fun _ => hset⟩
    · next hclear =>
      obtain ⟨hge, hle, hbelow, hset⟩ := ih (by omega)
      refine ⟨by omega, hle, fun v hlo hlt => ?_, hset⟩
      rcases Nat.eq_or_lt_of_le hlo with rfl | hlo
      · rw [hstart]
        exact eq_false_of_ne_true hclear
      · exact hbelow v (by omega) hlt

theorem lowestSet_least (b : BitVec 16) : LeastSetFrom b 0 (lowestSet b) := lowestFrom_least b le_rfl

theorem lowestSet_lt_iff {b : BitVec 16} {m : Nat} (hm : m ≤ 16) :
    lowestSet b < m ↔ ∃ v < m, b.getLsbD v = true := by
  obtain ⟨-, -, hbelow, hset⟩ := lowestSet_least b
  refine ⟨fun h => ⟨lowestSet b, h, hset (by omega)⟩, fun ⟨v, hv, hb⟩ => ?_⟩
  by_contra hge
  exact Bool.false_ne_true ((hbelow v (by omega) (by omega)).symm.trans hb)

theorem lt_lowestSet_of_clear {b : BitVec 16} {k : Nat} (hk : k < 16) (h : ∀ v ≤ k, b.getLsbD v = false) :
    k < lowestSet b := by
  by_contra hle
  have hset := (lowestSet_least b).set (by omega)
  exact Bool.false_ne_true ((h _ (by omega)).symm.trans hset)

theorem Ipic.cisv_le (x : Ipic) : x.cisv ≤ 16 := (lowestSet_least x.isv).le

theorem Ipic.top_le (x : Ipic) (live : Bool) (lines : BitVec 16) : x.top live lines ≤ 16 := (lowestSet_least _).le

/-! ### One bit of a vector register -/

theorem oneBit_getLsbD {k v : Nat} (hv : v < 16) : (1#16 <<< k).getLsbD v = decide (v = k) := by
  rcases Nat.lt_trichotomy v k with hlt | rfl | hgt
  · simp [hlt, hlt.ne]
  · simp [hv]
  · have hne : v - k ≠ 0 := by omega
    simp [hv, hgt.ne', hne]

theorem withBit_getLsbD (b : BitVec 16) (k : Nat) (x : Bool) {v : Nat} (hv : v < 16) :
    (withBit b k x).getLsbD v = if v = k then x else b.getLsbD v := by
  cases x
  · rw [withBit, if_neg Bool.false_ne_true, BitVec.getLsbD_and, BitVec.getLsbD_not, oneBit_getLsbD hv,
      decide_eq_true hv]
    by_cases hvk : v = k <;> simp [hvk]
  · rw [withBit, if_pos rfl, BitVec.getLsbD_or, oneBit_getLsbD hv]
    by_cases hvk : v = k <;> simp [hvk]

/-- What every register sees of a vector: its latch, or for a live level vector its conditioned line (R506, D42). -/
theorem Ipic.pending_getLsbD (x : Ipic) (live : Bool) (lines : BitVec 16) {v : Nat} (hv : v < 16) :
    (x.pending live lines).getLsbD v =
      if live && !x.im.getLsbD v then lines.getLsbD v ^^ x.inv.getLsbD v else x.ip.getLsbD v := by
  cases live
  · rfl
  · rw [Ipic.pending, if_pos rfl, Ipic.act, BitVec.getLsbD_or, BitVec.getLsbD_and, BitVec.getLsbD_and,
      BitVec.getLsbD_not, BitVec.getLsbD_xor, decide_eq_true hv]
    cases x.im.getLsbD v <;> simp

/-! ### The request (R505) -/

theorem interruptWord_external (e t w : Bool) : (interruptWord e t w).getLsbD 11 = e := by
  revert e t w
  decide

theorem Ipic.request_iff (x : Ipic) (live : Bool) (lines : BitVec 16) :
    x.request live lines = true ↔
      ∃ v, v < 16 ∧ (x.pending live lines).getLsbD v = true ∧ x.ie.getLsbD v = true ∧ v < x.cisv := by
  rw [Ipic.request, decide_eq_true_iff, Ipic.top, lowestSet_lt_iff x.cisv_le]
  have hle := x.cisv_le
  constructor
  · rintro ⟨v, hv, hb⟩
    rw [BitVec.getLsbD_and, Bool.and_eq_true] at hb
    exact ⟨v, by omega, hb.1, hb.2, hv⟩
  · rintro ⟨v, -, hp, he, hv⟩
    exact ⟨v, hv, by rw [BitVec.getLsbD_and, hp, he, Bool.and_self]⟩

/-! ### The registers as read -/

theorem Ipic.readCisv_toNat (x : Ipic) : x.readCisv.toNat = x.cisv := by
  have hle := x.cisv_le
  rw [Ipic.readCisv, BitVec.toNat_ofNat, Nat.mod_eq_of_lt (by omega)]

theorem Ipic.readCicsr_toNat {x : Ipic} (h : x.cisv < 16) (live : Bool) (lines : BitVec 16) :
    (x.readCicsr live lines).toNat =
      2 * (x.ie.getLsbD x.cisv).toNat + ((x.pending live lines).getLsbD x.cisv).toNat := by
  have hfields := (FieldsFrom.top 1 (bit (x.ie.getLsbD x.cisv))).or 0 (bit ((x.pending live lines).getLsbD x.cisv))
  have hin : x.cisv ≠ voidVector := h.ne
  rw [Ipic.readCicsr, if_neg hin, hfields.value, bit_toNat, bit_toNat]
  omega

theorem Ipic.readIcsr_toNat (x : Ipic) (live : Bool) (lines : BitVec 16) :
    (x.readIcsr live lines).toNat = 2 ^ 12 * x.idx.toNat + 2 ^ 8 * 3
      + 2 ^ 4 * (x.isv.getLsbD x.idx.toNat).toNat + 2 ^ 3 * (x.inv.getLsbD x.idx.toNat).toNat
      + 2 ^ 2 * (x.im.getLsbD x.idx.toNat).toNat + 2 * (x.ie.getLsbD x.idx.toNat).toNat
      + ((x.pending live lines).getLsbD x.idx.toNat).toNat := by
  have hfields := ((((((FieldsFrom.top 12 x.idx).or 8 0b11#2).or 4 (bit (x.isv.getLsbD x.idx.toNat))).or 3
    (bit (x.inv.getLsbD x.idx.toNat))).or 2 (bit (x.im.getLsbD x.idx.toNat))).or 1
    (bit (x.ie.getLsbD x.idx.toNat))).or 0 (bit ((x.pending live lines).getLsbD x.idx.toNat))
  rw [Ipic.readIcsr, hfields.value]
  simp only [bit_toNat, BitVec.toNat_ofNat]
  omega

/-- Settles O46: the request and the reads, each by its own lemma. -/
theorem externalInterruptPendingRule : Obligations.ExternalInterruptPendingRule := by
  refine ⟨fun s => ?_, fun s ip hip => ?_⟩
  · obtain ⟨-, hle, hbelow, hset⟩ := lowestSet_least s.ipic.isv
    have hmip : (s.readCsr .mip).getLsbD 11 = s.meip := interruptWord_external _ _ _
    refine ⟨⟨hle, fun v hv => hbelow v (Nat.zero_le v) hv, hset⟩, fun hoff => ?_, fun hon => ?_⟩
    · rw [hmip, State.meip, hoff]
      rfl
    · rw [hmip, State.meip, if_pos hon]
      exact s.ipic.request_iff _ _
  · subst hip
    have hwide (b : BitVec 16) : (b.setWidth 32).toNat = b.toNat := BitVec.toNat_setWidth_of_le (by omega)
    have hidx : (s.ipic.idx.setWidth 32).toNat = s.ipic.idx.toNat := BitVec.toNat_setWidth_of_le (by omega)
    exact ⟨s.ipic.readCisv_toNat, hwide _, hwide _, hidx, rfl, rfl, fun h => if_pos h,
      fun h => Ipic.readCicsr_toNat h _ _, s.ipic.readIcsr_toNat _ _⟩

end Sys2Proof.Machine
end

section
/-! # Proofs of the family 11_state: the writes of the interrupt controller (O47, O48) -/

namespace Sys2Proof.Machine

open Sys2Proof

/-! ### A write through CSRRW or CSRRWI -/

/-- The addresses of the six registers that a write changes (R113). -/
theorem csrAt_ipic {cfg : Config} (h : cfg.ipicEn = true) :
    csrAt cfg 0xBF1#12 = some .ipicCicsr ∧ csrAt cfg 0xBF2#12 = some .ipicIpr ∧
      csrAt cfg 0xBF4#12 = some .ipicEoi ∧ csrAt cfg 0xBF5#12 = some .ipicSoi ∧
      csrAt cfg 0xBF6#12 = some .ipicIdx ∧ csrAt cfg 0xBF7#12 = some .ipicIcsr := by
  simp [csrAt, csrTable, Csr.presentIn, h]

theorem Csr.not_minstret_of_isIpic {c : Csr} (h : c.isIpic = true) : (c == .minstret || c == .minstreth) = false := by
  cases c with
  | ipicCisv | ipicCicsr | ipicIpr | ipicIsvr | ipicEoi | ipicSoi | ipicIdx | ipicIcsr => rfl
  | _ => cases h

/-- A write that makes the IPIC `x` leaves `x` and answers the value read. -/
theorem answers_of_ipicWrite {s : State} {i : Instr} {f : CsrShape} {c : Csr} {x : Ipic}
    (hf : csrReplaceShape s i = some f) (hc : csrAt s.cfg f.addr = some c) (hi : c.isIpic = true)
    (hx : s.writeCsr c (f.new 0#32) = .ok { s with ipic := x }) :
    Answers i s (fun t => IpicDone s t f.rd (s.readCsr c) ∧ t.ipic = x) := by
  have hread : csrReadOnly f.addr = false := csrReadOnly_of_writable hc (Csr.writable_of_isIpic hi)
  exact ⟨_, next_of_csrReplaceShape hf hc hread hx, .of_csrEnd (Csr.not_minstret_of_isIpic hi), rfl⟩

theorem Answers.mono {i : Instr} {s : State} {P Q : State → Prop} (h : Answers i s P) (hPQ : ∀ t, P t → Q t) :
    Answers i s Q := by
  obtain ⟨t, hexec, ht⟩ := h
  exact ⟨t, hexec, hPQ t ht⟩

/-! ### Start and end of an interrupt (R119, R120) -/

/-- A bit taken out where `w` says so, as a written 1 does. -/
theorem clearWhere_getLsbD (b : BitVec 16) (k : Nat) (w : Bool) {v : Nat} (hv : v < 16) :
    (if w then withBit b k false else b).getLsbD v = (b.getLsbD v && !(decide (v = k) && w)) := by
  cases w
  · simp
  · rw [if_pos rfl, withBit_getLsbD b k false hv]
    by_cases hvk : v = k <;> simp [hvk]

section

variable (x : Ipic) (live : Bool) (lines : BitVec 16)

/-- The top vector goes into service exactly when it is below the one in service. -/
theorem Ipic.soi_starts_iff :
    (x.top live lines ≠ voidVector ∧ (x.cisv = voidVector ∨ x.top live lines < x.cisv)) ↔
      x.top live lines < x.cisv := by
  have hcisv := x.cisv_le
  have htop := x.top_le live lines
  have hvoid : voidVector = 16 := rfl
  omega

theorem Ipic.writeSoi_of_outranks (clears : Bool) (h : x.top live lines < x.cisv) :
    x.writeSoi live clears lines = { x with
      isv := withBit x.isv (x.top live lines) true
      ip := if clears then withBit (x.pending live lines) (x.top live lines) false else x.pending live lines } :=
  if_pos ((x.soi_starts_iff live lines).mpr h)

theorem Ipic.writeSoi_of_outranked (clears : Bool) (h : ¬ x.top live lines < x.cisv) :
    x.writeSoi live clears lines = x :=
  if_neg (mt (x.soi_starts_iff live lines).mp h)

theorem Ipic.writeSoi_frame (clears : Bool) :
    x.writeSoi live clears lines =
      { x with ip := (x.writeSoi live clears lines).ip, isv := (x.writeSoi live clears lines).isv } := by
  unfold Ipic.writeSoi
  split <;> rfl

theorem Ipic.writeSoi_isv (clears : Bool) {v : Nat} (hv : v < 16) :
    (x.writeSoi live clears lines).isv.getLsbD v =
      (x.isv.getLsbD v || (decide (v = x.top live lines) && decide (v < x.cisv))) := by
  by_cases h : x.top live lines < x.cisv
  · rw [x.writeSoi_of_outranks live lines clears h, withBit_getLsbD _ _ _ hv]
    by_cases hvt : v = x.top live lines <;> simp [hvt, h]
  · have hnot : ¬ (v = x.top live lines ∧ v < x.cisv) := fun ⟨hvt, hlt⟩ => h (hvt ▸ hlt)
    rw [x.writeSoi_of_outranked live lines clears h, ← Bool.decide_and, decide_eq_false hnot, Bool.or_false]

/-- The pending bit of the vector that enters service is cleared where IPIC_SOI_CLEARS_IP says so, but a live level
vector shows its line whatever its latch holds (R120, D42). -/
theorem Ipic.writeSoi_pending (clears : Bool) {v : Nat} (hv : v < 16) :
    ((x.writeSoi live clears lines).pending live lines).getLsbD v =
      ((x.pending live lines).getLsbD v &&
        !(clears && decide (v = x.top live lines) && decide (v < x.cisv) && (!live || x.im.getLsbD v))) := by
  by_cases h : x.top live lines < x.cisv
  · rw [x.writeSoi_of_outranks live lines clears h, Ipic.pending_getLsbD _ _ _ hv, clearWhere_getLsbD _ _ _ hv,
      x.pending_getLsbD live lines hv]
    by_cases hvt : v = x.top live lines
    · have hlt : v < x.cisv := hvt ▸ h
      cases live <;> cases x.im.getLsbD v <;> simp [← hvt, hlt]
    · cases live <;> cases x.im.getLsbD v <;> simp [hvt]
  · have hnot : ¬ (v = x.top live lines ∧ v < x.cisv) := fun ⟨hvt, hlt⟩ => h (hvt ▸ hlt)
    rw [x.writeSoi_of_outranked live lines clears h, Bool.and_assoc clears, ← Bool.decide_and, decide_eq_false hnot]
    simp

end

theorem Ipic.writeEoi_frame (x : Ipic) : x.writeEoi = { x with isv := x.writeEoi.isv } := by
  unfold Ipic.writeEoi
  split <;> rfl

theorem Ipic.writeEoi_isv (x : Ipic) {v : Nat} (hv : v < 16) :
    x.writeEoi.isv.getLsbD v = (x.isv.getLsbD v && decide (v ≠ x.cisv)) := by
  unfold Ipic.writeEoi
  split
  · next hvoid =>
    have hne : v ≠ x.cisv := by rw [hvoid]; exact hv.ne
    rw [decide_eq_true hne, Bool.and_true]
  · rw [withBit_getLsbD _ _ _ hv]
    by_cases hvc : v = x.cisv <;> simp [hvc]

/-- With the lowest vector out of service the next one in service is above it. -/
theorem Ipic.cisv_lt_writeEoi {x : Ipic} (h : x.cisv < 16) : x.cisv < x.writeEoi.cisv := by
  refine lt_lowestSet_of_clear h fun v hv => ?_
  rw [x.writeEoi_isv (by omega)]
  rcases Nat.eq_or_lt_of_le hv with rfl | hlt
  · simp
  · rw [(lowestSet_least x.isv).below v (Nat.zero_le v) hlt, Bool.false_and]

/-- Settles O47: what the two writes leave of the IPIC, bit by bit. -/
theorem startAndEndOfInterrupt : Obligations.StartAndEndOfInterrupt := by
  intro s i f hf hon
  obtain ⟨-, -, heoi, hsoi, -, -⟩ := csrAt_ipic hon
  refine ⟨fun ha => ?_, fun ha => ?_⟩
  · refine (answers_of_ipicWrite hf (ha ▸ hsoi) rfl rfl).mono ?_
    rintro t ⟨hdone, hx⟩
    rw [hx]
    refine ⟨hdone, s.ipic.writeSoi_frame _ _ _, fun v hv => s.ipic.writeSoi_isv _ _ _ hv, fun hkeep => ?_,
      fun hclear v hv => ?_⟩
    · refine BitVec.eq_of_getLsbD_eq fun v hv => ?_
      simp [s.ipic.writeSoi_pending _ _ _ hv, hkeep]
    · simp [s.ipic.writeSoi_pending _ _ _ hv, hclear]
  · refine (answers_of_ipicWrite hf (ha ▸ heoi) rfl rfl).mono ?_
    rintro t ⟨hdone, hx⟩
    rw [hx]
    exact ⟨hdone, s.ipic.writeEoi_frame, fun v hv => s.ipic.writeEoi_isv hv, Ipic.cisv_lt_writeEoi⟩

/-! ### The registers with fields (R116, R117, R121, R124) -/

theorem Ipic.writeIpr_ip (x : Ipic) (live : Bool) (lines : BitVec 16) (w : Word) {v : Nat} (hv : v < 16) :
    (x.writeIpr live lines w).ip.getLsbD v = ((x.pending live lines).getLsbD v && !w.getLsbD v) := by
  rw [Ipic.writeIpr, BitVec.getLsbD_and, BitVec.getLsbD_not, BitVec.getLsbD_extractLsb', Nat.zero_add,
    decide_eq_true hv, Bool.true_and, Bool.true_and]

theorem Ipic.writeIdx_toNat (x : Ipic) (w : Word) : (x.writeIdx w).idx.toNat = w.toNat % 16 := by
  rw [Ipic.writeIdx, BitVec.extractLsb'_toNat, Nat.shiftRight_zero]

theorem Ipic.writeCicsr_of_void {x : Ipic} (h : x.cisv = 16) (live : Bool) (lines : BitVec 16) (w : Word) :
    x.writeCicsr live lines w = x := if_pos h

theorem Ipic.writeCicsr_of_inService {x : Ipic} (h : x.cisv < 16) (live : Bool) (lines : BitVec 16) (w : Word) :
    x.writeCicsr live lines w = { x with
      ip := if w.getLsbD 0 then withBit (x.pending live lines) x.cisv false else x.pending live lines
      ie := withBit x.ie x.cisv (w.getLsbD 1) } := if_neg h.ne

/-- An IM or INV bit that is as before: the write is no edge (R506). -/
theorem Ipic.icsrMayBeEdge_of_same {x : Ipic} {w : Word}
    (him : withBit x.im x.idx.toNat (w.getLsbD 2) = x.im) (hinv : withBit x.inv x.idx.toNat (w.getLsbD 3) = x.inv) :
    x.icsrMayBeEdge w = false := by
  have hbit {b : BitVec 16} {y : Bool} (h : withBit b x.idx.toNat y = b) : b.getLsbD x.idx.toNat = y := by
    have hset := withBit_getLsbD b x.idx.toNat y x.idx.isLt
    rwa [h, if_pos rfl] at hset
  rw [Ipic.icsrMayBeEdge, hbit him, hbit hinv, bne_self_eq_false, bne_self_eq_false, Bool.or_false]

/-- The pending bits that U28 does not leave open: those of the other vectors, and all where IM and INV stay. -/
theorem Ipic.writeIcsr_ip {x : Ipic} {live free : Bool} {lines : BitVec 16} {w : Word} {v : Nat} (hv : v < 16)
    (h : v ≠ x.idx.toNat ∨ ((x.writeIcsr live lines w free).im = x.im ∧ (x.writeIcsr live lines w free).inv = x.inv)) :
    (x.writeIcsr live lines w free).ip.getLsbD v =
      ((x.pending live lines).getLsbD v && !(decide (v = x.idx.toNat) && w.getLsbD 0)) := by
  have hcleared : (x.icsrPending live lines w).getLsbD v =
      ((x.pending live lines).getLsbD v && !(decide (v = x.idx.toNat) && w.getLsbD 0)) :=
    clearWhere_getLsbD _ _ _ hv
  rw [← hcleared, Ipic.writeIcsr]
  rcases h with hne | ⟨him, hinv⟩
  · split
    · rw [withBit_getLsbD _ _ _ hv, if_neg hne]
    · rfl
  · rw [Ipic.icsrMayBeEdge_of_same him hinv]
    rfl

/-- Settles O48: each register's write, bit by bit. -/
theorem ipicRegisterWrites : Obligations.IpicRegisterWrites := by
  intro s i f hf hon
  obtain ⟨hcicsr, hipr, -, -, hidx, hicsr⟩ := csrAt_ipic hon
  refine ⟨fun ha => ?_, fun ha => ?_, fun ha => ?_, fun ha => ?_⟩
  · refine (answers_of_ipicWrite hf (ha ▸ hipr) rfl rfl).mono ?_
    rintro t ⟨hdone, hx⟩
    rw [hx]
    exact ⟨hdone, rfl, fun v hv => s.ipic.writeIpr_ip _ _ _ hv⟩
  · refine (answers_of_ipicWrite hf (ha ▸ hidx) rfl rfl).mono ?_
    rintro t ⟨hdone, hx⟩
    rw [hx]
    exact ⟨hdone, rfl, s.ipic.writeIdx_toNat _⟩
  · refine (answers_of_ipicWrite hf (ha ▸ hcicsr) rfl rfl).mono ?_
    rintro t ⟨hdone, hx⟩
    rw [hx]
    refine ⟨hdone, fun h => Ipic.writeCicsr_of_void h _ _ _, fun h => ?_⟩
    rw [Ipic.writeCicsr_of_inService h]
    exact ⟨rfl, fun v hv => withBit_getLsbD _ _ _ hv, fun v hv => clearWhere_getLsbD _ _ _ hv⟩
  · refine (answers_of_ipicWrite hf (ha ▸ hicsr) rfl rfl).mono ?_
    rintro t ⟨hdone, hx⟩
    rw [hx]
    refine ⟨hdone, rfl, fun v hv => ?_, fun v hv h => Ipic.writeIcsr_ip hv h⟩
    exact ⟨withBit_getLsbD _ _ _ hv, withBit_getLsbD _ _ _ hv, withBit_getLsbD _ _ _ hv, withBit_getLsbD _ _ _ hv⟩

end Sys2Proof.Machine
end

section
/-! # Proofs of the family 11_state: the lines and the pending bits (O49) -/

namespace Sys2Proof.Machine

open Sys2Proof

/-- A vector whose latch every register sees: one in edge mode, or any where level vectors do not follow their line. -/
theorem Ipic.pending_latch {x : Ipic} {live : Bool} (lines : BitVec 16) {v : Nat} (hv : v < 16)
    (h : live = false ∨ x.im.getLsbD v = true) : (x.pending live lines).getLsbD v = x.ip.getLsbD v := by
  rw [x.pending_getLsbD live lines hv]
  rcases h with rfl | him
  · rfl
  · rw [him, Bool.not_true, Bool.and_false]
    rfl

/-- A live level vector shows its conditioned line. -/
theorem Ipic.pending_line {x : Ipic} (lines : BitVec 16) {v : Nat} (hv : v < 16) (him : x.im.getLsbD v = false) :
    (x.pending true lines).getLsbD v = (lines.getLsbD v ^^ x.inv.getLsbD v) := by
  rw [x.pending_getLsbD true lines hv, him]
  rfl

/-- What a sampling leaves in the latch: the bit that was there, or the vector's condition (R506). -/
theorem Ipic.sample_ip (x : Ipic) (lines : BitVec 16) {v : Nat} (hv : v < 16) :
    (x.sample lines).ip.getLsbD v = (x.ip.getLsbD v ||
      (x.im.getLsbD v && (lines.getLsbD v ^^ x.inv.getLsbD v) && !(x.prev.getLsbD v ^^ x.inv.getLsbD v)) ||
      (!x.im.getLsbD v && (lines.getLsbD v ^^ x.inv.getLsbD v))) := by
  simp only [Ipic.sample, Ipic.act, BitVec.getLsbD_or, BitVec.getLsbD_and, BitVec.getLsbD_not, BitVec.getLsbD_xor, hv,
    decide_true, Bool.true_and]

/-- The four conditions of R506, by mode and inversion. -/
theorem Ipic.sample_pending_iff (x : Ipic) (live : Bool) (before lines : BitVec 16) {v : Nat} (hv : v < 16) :
    ((x.sample lines).pending live lines).getLsbD v = true ↔
      ((live = false ∨ x.im.getLsbD v = true) ∧ (x.pending live before).getLsbD v = true) ∨
      (x.im.getLsbD v = false ∧ x.inv.getLsbD v = false ∧ lines.getLsbD v = true) ∨
      (x.im.getLsbD v = false ∧ x.inv.getLsbD v = true ∧ lines.getLsbD v = false) ∨
      (x.im.getLsbD v = true ∧ x.inv.getLsbD v = false ∧ x.prev.getLsbD v = false ∧ lines.getLsbD v = true) ∨
      (x.im.getLsbD v = true ∧ x.inv.getLsbD v = true ∧ x.prev.getLsbD v = true ∧ lines.getLsbD v = false) := by
  have hip := x.sample_ip lines hv
  cases him : x.im.getLsbD v
  case true =>
    have hafter := Ipic.pending_latch (x := x.sample lines) (live := live) lines hv (.inr him)
    rw [hafter, hip, Ipic.pending_latch before hv (.inr him), him]
    cases x.inv.getLsbD v <;> simp [and_comm]
  case false =>
    cases live
    · rw [Ipic.pending_latch lines hv (.inl rfl), hip, Ipic.pending_latch before hv (.inl rfl), him]
      cases x.inv.getLsbD v <;> simp
    · rw [Ipic.pending_line (x := x.sample lines) lines hv him]
      have hinv : (x.sample lines).inv = x.inv := rfl
      cases h : x.inv.getLsbD v <;> simp [hinv, h]

/-! ### The moves of the host -/

/-- What a move can make of the IPIC: the synchronizer runs, or the lines are sampled (R506). -/
theorem HostMove.apply_ipic {m : HostMove} {s t : State} (h : m.apply s = .ok t) :
    t.ipic = s.ipic ∨ t.ipic = s.ipic.sync s.pins.irqLines ∨ t.ipic = s.ipic.sample s.ipicLines := by
  have hdebugger (hf : DebuggerFrame s t) : t.ipic = s.ipic := by
    obtain ⟨_, _, _, _, rfl⟩ := hf
    rfl
  cases m with
  | syncLines =>
    cases h
    exact .inr (.inl rfl)
  | sampleLines =>
    cases h
    exact .inr (.inr rfl)
  | prefetch a =>
    cases h
    refine .inl ?_
    unfold State.prefetch
    split <;> rfl
  | scanIr code =>
    simp only [HostMove.apply] at h
    split at h
    · exact .inl (hdebugger (State.scanIr_debuggerFrame h))
    · cases h
      exact .inl rfl
  | scanDr v =>
    simp only [HostMove.apply] at h
    split at h
    · exact .inl (hdebugger (State.scanDr_debuggerFrame h))
    · cases h
      exact .inl rfl
  | clk | rtc | irqLines | softIrq | extIrq | rstN | tapReset =>
    cases h
    exact .inl rfl

/-- No move changes a vector's mode or takes its latch away. -/
theorem HostMove.apply_keepsLatch {m : HostMove} {s t : State} (h : m.apply s = .ok t) :
    t.ipic.im = s.ipic.im ∧ ∀ v, s.ipic.ip.getLsbD v = true → t.ipic.ip.getLsbD v = true := by
  rcases HostMove.apply_ipic h with hx | hx | hx <;> rw [hx]
  · exact ⟨rfl, fun _ => id⟩
  · exact ⟨rfl, fun _ => id⟩
  · refine ⟨rfl, fun v hip => ?_⟩
    rw [Ipic.sample, BitVec.getLsbD_or, BitVec.getLsbD_or, hip, Bool.true_or, Bool.true_or]

/-- Settles O49: an edge vector shows its latch, and no move takes the latch away. -/
theorem linesSetPendingBits : Obligations.LinesSetPendingBits := by
  refine ⟨fun x live lines v hv => ⟨?_, ?_, ?_⟩,
    fun x live before lines v hv => x.sample_pending_iff live before lines hv,
    fun m s t v hv h him hpending => ?_⟩
  · rintro rfl him
    rw [Ipic.pending_line lines hv him, bne_iff_ne]
  · exact fun _ him => Ipic.pending_latch lines hv (.inr him)
  · rintro rfl
    rfl
  · obtain ⟨hmode, hkeeps⟩ := HostMove.apply_keepsLatch h
    have himt : t.ipic.im.getLsbD v = true := hmode ▸ him
    rw [Ipic.pending_latch _ hv (.inr him)] at hpending
    exact ⟨himt, (Ipic.pending_latch _ hv (.inr himt)).trans (hkeeps v hpending)⟩

end Sys2Proof.Machine
end

section
/-! # Proofs of the family 11_state: the breakpoint registers (O55, O56) -/

namespace Sys2Proof.Machine

open Sys2Proof

/-! ### A write of a breakpoint register -/

/-- The addresses of the six registers that hold the state of the module (R139). -/
theorem csrAt_brkm {cfg : Config} (h : cfg.brkmEn = true) :
    csrAt cfg 0x7C0#12 = some .bpselect ∧ csrAt cfg 0x7C1#12 = some .bpcontrol ∧
      csrAt cfg 0x7C2#12 = some .bploaddr ∧ csrAt cfg 0x7C3#12 = some .bphiaddr ∧
      csrAt cfg 0x7C6#12 = some .bpctrlext ∧ csrAt cfg 0x7C7#12 = some .brkmctrl := by
  simp [csrAt, csrTable, Csr.presentIn, h]

/-- The two data registers exist where BRKM_DATA_CSRS has them read 0 (R144, U17). -/
theorem csrAt_brkmData {cfg : Config} (h : cfg.brkmEn = true) (hdata : cfg.brkmDataCsrs = .readZero) :
    csrAt cfg 0x7C4#12 = some .bplodata ∧ csrAt cfg 0x7C5#12 = some .bphidata := by
  simp [csrAt, csrTable, Csr.presentIn, h, hdata]

/-- The registers of the breakpoint module (R139). -/
def Csr.isBrkm : Csr → Bool
  | .bpselect | .bpcontrol | .bploaddr | .bphiaddr | .bplodata | .bphidata | .bpctrlext | .brkmctrl => true
  | _ => false

/-- They can be written in every form, and a write of one is counted. -/
theorem Csr.plain_of_isBrkm {c : Csr} (h : c.isBrkm = true) :
    c.writable = true ∧ c.isIpic = false ∧ (c == .minstret || c == .minstreth) = false := by
  cases c with
  | bpselect | bpcontrol | bploaddr | bphiaddr | bplodata | bphidata | bpctrlext | brkmctrl => decide
  | _ => cases h

section

variable {s : State} {i : Instr} {f : CsrShape} {c : Csr} (hf : csrWriteShape s i = some f)
  (hc : csrAt s.cfg f.addr = some c) (hb : c.isBrkm = true)
include hf hc hb

/-- A write that makes the module `m` leaves `m` and answers the value read. -/
theorem answers_of_brkmWrite {m : Brkm} (hm : s.writeCsr c (f.new (s.readCsr c)) = .ok { s with brkm := m }) :
    Answers i s (fun t => BrkmDone s t f.rd (s.readCsr c) ∧ t.brkm = m) := by
  obtain ⟨hwritable, hipic, hcount⟩ := Csr.plain_of_isBrkm hb
  exact ⟨_, next_of_csrWriteShape hf hc (csrReadOnly_of_writable hc hwritable) hipic hm, .of_csrEnd hcount, rfl⟩

/-- A write that is ignored: the instruction only reads. -/
theorem answers_of_brkmIgnored (hs : s.writeCsr c (f.new (s.readCsr c)) = .ok s) :
    Answers i s (fun t => RegDone s t f.rd (s.readCsr c) (s.pc + 4#32)) := by
  obtain ⟨hwritable, hipic, hcount⟩ := Csr.plain_of_isBrkm hb
  exact ⟨_, next_of_csrWriteShape hf hc (csrReadOnly_of_writable hc hwritable) hipic hs,
    .of_csrEnd s f.rd (by rw [hcount, Bool.and_false])⟩

end

/-! ### The selected breakpoint -/

theorem State.bpWrite_some {s : State} {b : Breakpoint} (h : s.brkm.selected = some b) (g : Breakpoint → Breakpoint) :
    s.bpWrite g = .ok { s with brkm := s.brkm.setSelected (g b) } := by
  rw [State.bpWrite, h]

theorem State.bpWrite_none {s : State} (h : s.brkm.selected = none) (g : Breakpoint → Breakpoint) :
    s.bpWrite g = .error .breakpointAbsent := by
  rw [State.bpWrite, h]

theorem State.bpRead_some {s : State} {b : Breakpoint} (h : s.brkm.selected = some b) (a : CsrAddr)
    (g : Breakpoint → Word) : s.bpRead a g = g b := by
  rw [State.bpRead, h]

/-- The breakpoint just written is the one selected. -/
theorem Brkm.selected_setSelected {m : Brkm} {b : Breakpoint} (h : m.selected = some b) (b' : Breakpoint) :
    (m.setSelected b').selected = some b' := by
  obtain ⟨hlt, -⟩ := List.getElem?_eq_some_iff.mp h
  exact List.getElem?_set_self hlt

/-- A write of the selected breakpoint replaces that breakpoint and answers the value read. -/
theorem answers_of_selectedWrite {s : State} {i : Instr} {f : CsrShape} {c : Csr} {b : Breakpoint}
    {g : Breakpoint → Breakpoint} (hb : s.brkm.selected = some b) (hf : csrWriteShape s i = some f)
    (hc : csrAt s.cfg f.addr = some c) (hbrkm : c.isBrkm = true)
    (hw : s.writeCsr c (f.new (s.readCsr c)) = s.bpWrite g) :
    Answers i s (fun t => BrkmDone s t f.rd (s.readCsr c) ∧ t.brkm = s.brkm.setSelected (g b)) :=
  answers_of_brkmWrite hf hc hbrkm (hw.trans (State.bpWrite_some hb g))

/-- Where BPSELECT selects none there is nothing to write (U14). -/
theorem refused_of_noneSelected {s : State} {i : Instr} {f : CsrShape} {c : Csr} {g : Breakpoint → Breakpoint}
    (hnone : s.brkm.selected = none) (hf : csrWriteShape s i = some f) (hc : csrAt s.cfg f.addr = some c)
    (hb : c.isBrkm = true) (hw : s.writeCsr c (f.new (s.readCsr c)) = s.bpWrite g) :
    exec i s = .refused .breakpointAbsent := by
  obtain ⟨hwritable, hipic, -⟩ := Csr.plain_of_isBrkm hb
  have hrefused := hw.trans (State.bpWrite_none hnone g)
  exact refused_of_csrWriteShape hf hc (csrReadOnly_of_writable hc hwritable) hipic hrefused

/-! ### The address registers (R142, R143) -/

/-- Settles O56: the selected breakpoint takes the word and shows it. -/
theorem breakpointAddressRegisters : Obligations.BreakpointAddressRegisters := by
  intro s b hon hb
  obtain ⟨-, -, hlo, hhi, -, -⟩ := csrAt_brkm hon
  have hreadLo : s.readCsr .bploaddr = b.loAddr := State.bpRead_some hb _ _
  have hreadHi : s.readCsr .bphiaddr = b.hiAddr := State.bpRead_some hb _ _
  refine ⟨hreadLo, hreadHi, fun i f hf => ⟨fun ha => ?_, fun ha => ?_⟩⟩
  · refine (answers_of_selectedWrite hb hf (ha ▸ hlo) rfl rfl).mono ?_
    rintro t ⟨hdone, hm⟩
    have hnew : t.brkm.selected = some { b with loAddr := f.new (s.readCsr .bploaddr) } :=
      hm ▸ Brkm.selected_setSelected hb _
    rw [hreadLo] at hdone hm hnew
    exact ⟨hdone, State.bpRead_some hnew _ _, hm⟩
  · refine (answers_of_selectedWrite hb hf (ha ▸ hhi) rfl rfl).mono ?_
    rintro t ⟨hdone, hm⟩
    have hnew : t.brkm.selected = some { b with hiAddr := f.new (s.readCsr .bphiaddr) } :=
      hm ▸ Brkm.selected_setSelected hb _
    rw [hreadHi] at hdone hm hnew
    exact ⟨hdone, State.bpRead_some hnew _ _, hm⟩

/-! ### The registers with fields, written (R140, R141, R146, R149) -/

theorem enableBit_of_stated {sup written free : Bool} (h : sup = true ∨ written = false) :
    enableBit sup written free = written := by
  rcases h with rfl | rfl
  · rfl
  · rw [enableBit, Bool.not_false, Bool.or_true, if_pos rfl]

theorem selectAfter_toNat {width : Nat} (hw : width ≤ 12) (v : Word) :
    (selectAfter width v).toNat = v.toNat % 2 ^ width := by
  have hmod : v.toNat % 2 ^ width < 2 ^ width := Nat.mod_lt _ (Nat.two_pow_pos _)
  have hpow : 2 ^ width ≤ 2 ^ 12 := Nat.pow_le_pow_right (by omega) hw
  rw [selectAfter, BitVec.toNat_ofNat, Nat.mod_eq_of_lt (by omega)]

/-! ### The registers with fields, read -/

theorem Brkm.readCtrl_toNat (m : Brkm) (init : Bool) :
    (m.readCtrl init).toNat = 2 ^ 16 * m.mode.toNat + 2 ^ 15 * init.toNat + 2 ^ 14 * m.bpISkip.toNat
      + 2 ^ 12 * m.anyMatched.toNat := by
  have hfields := (((FieldsFrom.top 16 (bit m.mode)).or 15 (bit init)).or 14 (bit m.bpISkip)).or 12 (bit m.anyMatched)
  rw [Brkm.readCtrl, hfields.value]
  simp only [bit_toNat]

theorem Brkm.anyMatched_toNat (m : Brkm) :
    m.anyMatched.toNat = if ∃ b ∈ m.bps, b.matched = true then 1 else 0 := by
  have hany : m.anyMatched = true ↔ ∃ b ∈ m.bps, b.matched = true := List.any_eq_true
  split
  · next h => rw [hany.mpr h, Bool.toNat_true]
  · next h => rw [eq_false_of_ne_true (mt hany.mp h), Bool.toNat_false]

theorem Breakpoint.readExt_toNat (b : Breakpoint) :
    b.readExt.toNat = 2 ^ 14 * b.amaskext.toNat + 2 ^ 13 * b.dryrun.toNat := by
  have hfields := (FieldsFrom.top 14 (bit b.amaskext)).or 13 (bit b.dryrun)
  rw [Breakpoint.readExt, hfields.value, bit_toNat, bit_toNat]

theorem Breakpoint.readControl_toNat (b : Breakpoint) (sup : BpSupport) :
    (b.readControl sup).toNat = 2 ^ 26 * sup.load.toNat + 2 ^ 25 * sup.store.toNat + 2 ^ 24 * sup.exec.toNat
      + 2 ^ 23 * sup.a.toNat + 2 ^ 21 * sup.amask.toNat + 2 ^ 15 * b.matched.toNat + 2 ^ 12 * b.action.toNat
      + 2 ^ 10 * b.loaden.toNat + 2 ^ 9 * b.storeen.toNat + 2 ^ 8 * b.execen.toNat + 2 ^ 7 * b.aen.toNat
      + 2 ^ 5 * b.amasken.toNat := by
  have hsup := ((((FieldsFrom.top 26 (bit sup.load)).or 25 (bit sup.store)).or 24 (bit sup.exec)).or 23 (bit sup.a)).or
    21 (bit sup.amask)
  have hfields := ((((((hsup.or 15 (bit b.matched)).or 12 b.action).or 10 (bit b.loaden)).or 9 (bit b.storeen)).or 8
    (bit b.execen)).or 7 (bit b.aen)).or 5 (bit b.amasken)
  rw [Breakpoint.readControl, hfields.value]
  simp only [bit_toNat]

/-- Settles O55: each register's write and read by its own lemma. -/
theorem breakpointRegisterWrites : Obligations.BreakpointRegisterWrites := by
  refine ⟨fun s i f hf hon => ?_, fun s => ⟨?_, ?_, fun b sup hb hsup => ?_⟩⟩
  · obtain ⟨hselect, hcontrol, hlo, hhi, hext, hctrl⟩ := csrAt_brkm hon
    refine ⟨fun ha => ?_, fun ha => ?_, fun hdata ha => ?_, fun hnone ha => ?_, fun b v sup hb hsup => ?_⟩
    · have hwidth := Config.bpWidth_le s.cfg
      refine (answers_of_brkmWrite hf (ha ▸ hselect) rfl rfl).mono ?_
      rintro t ⟨hdone, hm⟩
      rw [hm]
      exact ⟨hdone, rfl, selectAfter_toNat (by omega) _⟩
    · exact answers_of_brkmWrite hf (ha ▸ hctrl) rfl rfl
    · obtain ⟨hlodata, hhidata⟩ := csrAt_brkmData hon hdata
      rcases ha with ha | ha
      · exact answers_of_brkmIgnored hf (ha ▸ hlodata) rfl rfl
      · exact answers_of_brkmIgnored hf (ha ▸ hhidata) rfl rfl
    · rcases ha with ha | ha | ha | ha
      · exact refused_of_noneSelected hnone hf (ha ▸ hcontrol) rfl rfl
      · exact refused_of_noneSelected hnone hf (ha ▸ hlo) rfl rfl
      · exact refused_of_noneSelected hnone hf (ha ▸ hhi) rfl rfl
      · exact refused_of_noneSelected hnone hf (ha ▸ hext) rfl rfl
    · subst hsup
      constructor
      · rintro ha rfl
        refine (answers_of_selectedWrite hb hf (ha ▸ hcontrol) rfl rfl).mono ?_
        rintro t ⟨hdone, hm⟩
        exact ⟨hdone, _, hm, rfl, rfl, rfl, rfl, rfl, rfl, enableBit_of_stated, enableBit_of_stated,
          enableBit_of_stated, enableBit_of_stated, enableBit_of_stated⟩
      · rintro ha rfl
        refine (answers_of_selectedWrite hb hf (ha ▸ hext) rfl rfl).mono ?_
        rintro t ⟨hdone, hm⟩
        exact ⟨hdone, _, hm, rfl, enableBit_of_stated⟩
  · exact BitVec.toNat_setWidth_of_le (by omega)
  · refine ⟨Config.freeInitBit s.freeIdx, ?_⟩
    rw [← s.brkm.anyMatched_toNat]
    exact s.brkm.readCtrl_toNat _
  · subst hsup
    have hcontrol : s.readCsr .bpcontrol = b.readControl s.selectedSup := State.bpRead_some hb _ _
    have hext : s.readCsr .bpctrlext = b.readExt := State.bpRead_some hb _ _
    rw [hcontrol, hext]
    exact ⟨b.readControl_toNat _, b.readExt_toNat⟩

end Sys2Proof.Machine
end

section
/-! # Proofs of the family 20_memory: little-endian values (O8, O27, O29, O33, O34)

The machine assembles a value from its bytes bit by bit, the statements add the bytes up. -/

namespace Sys2Proof.Machine

open Sys2Proof

/-! ### Reading -/

/-- The value of `n` bytes is below 256 ^ n. -/
theorem leNat_lt (f : Nat → Byte) (a n : Nat) : leNat f a n < 256 ^ n := by
  induction n generalizing a with
  | zero => exact Nat.one_pos
  | succ n ih =>
    have hbyte := (f a).isLt
    have hrest := ih (a + 1)
    rw [leNat, Nat.pow_succ]
    omega

/-- The value depends on the bytes read only. -/
theorem leNat_congr {f g : Nat → Byte} {n : Nat} {a b : Nat} (h : ∀ i < n, f (a + i) = g (b + i)) :
    leNat f a n = leNat g b n := by
  induction n generalizing a b with
  | zero => rfl
  | succ n ih =>
    have hfirst : f a = g b := h 0 (by omega)
    have hrest : leNat f (a + 1) n = leNat g (b + 1) n :=
      ih fun i hi => by simpa only [Nat.add_assoc, Nat.add_comm 1] using h (i + 1) (by omega)
    rw [leNat, leNat, hfirst, hrest]

/-- What the machine reads of at most four bytes is their little-endian value (R220). -/
theorem readLE_toNat (f : Nat → Byte) (a : Nat) {n : Nat} (hn : n ≤ 4) : (readLE f a n).toNat = leNat f a n := by
  induction n generalizing a with
  | zero => rfl
  | succ n ih =>
    have hrest := ih (a + 1) (by omega)
    have hlt : leNat f (a + 1) n * 256 < 2 ^ 32 := by
      have hpow : 256 ^ n ≤ 256 ^ 3 := Nat.pow_le_pow_right (by omega) (by omega)
      have := leNat_lt f (a + 1) n
      omega
    have hshift : (readLE f (a + 1) n <<< 8).toNat = leNat f (a + 1) n * 256 := by
      rw [BitVec.toNat_shiftLeft, hrest, Nat.shiftLeft_eq, Nat.mod_eq_of_lt hlt]
    have hor := (toNat_or_put (x := readLE f (a + 1) n <<< 8) (v := f a) (k := 0) (by rw [hshift]; omega) (by omega)).1
    rw [put, BitVec.shiftLeft_zero, hshift] at hor
    rw [readLE, hor, leNat]
    omega

theorem readLE_eq_ofNat (f : Nat → Byte) (a : Nat) {n : Nat} (hn : n ≤ 4) :
    readLE f a n = BitVec.ofNat 32 (leNat f a n) :=
  BitVec.eq_of_toNat_eq (by rw [← readLE_toNat f a hn, BitVec.ofNat_toNat, BitVec.setWidth_eq])

theorem readLE_congr {f g : Nat → Byte} {n a b : Nat} (hn : n ≤ 4) (h : ∀ i < n, f (a + i) = g (b + i)) :
    readLE f a n = readLE g b n := by
  rw [readLE_eq_ofNat f a hn, readLE_eq_ofNat g b hn, leNat_congr h]

/-- The low bits of what was read. -/
theorem extractLsb'_readLE (f : Nat → Byte) (a : Nat) {n : Nat} (k : Nat) (hn : n ≤ 4) :
    (readLE f a n).extractLsb' 0 k = BitVec.ofNat k (leNat f a n) := by
  refine BitVec.eq_of_toNat_eq ?_
  rw [BitVec.extractLsb'_toNat, Nat.shiftRight_zero, readLE_toNat f a hn, BitVec.toNat_ofNat]

/-! ### Bytes as halfwords and words -/

theorem halfOfBytes_toNat (b0 b1 : Byte) : (halfOfBytes b0 b1).toNat = b0.toNat + 256 * b1.toNat := by
  have h1 : (put 8 b1 : Half).toNat = 256 * b1.toNat := by
    have := (toNat_or_put (x := 0#16) (v := b1) (k := 8) (Nat.dvd_zero _) (by omega)).1
    simpa using this
  have h0 := (toNat_or_put (x := (put 8 b1 : Half)) (v := b0) (k := 0) (by omega) (by omega)).1
  rw [halfOfBytes, h0, h1]
  omega

theorem wordOfBytes_toNat (b0 b1 b2 b3 : Byte) : (wordOfBytes b0 b1 b2 b3).toNat =
    b0.toNat + 256 * b1.toNat + 65536 * b2.toNat + 16777216 * b3.toNat := by
  have hfields := (((FieldsFrom.top 24 b3).or 16 b2).or 8 b1).or 0 b0
  rw [wordOfBytes, hfields.value]
  omega

/-! ### Storing -/

/-- Byte i of a word is its digit i to the base 256. -/
theorem extractLsb'_byte (v : Word) (i : Nat) : v.extractLsb' (8 * i) 8 = BitVec.ofNat 8 (v.toNat / 256 ^ i) := by
  refine BitVec.eq_of_toNat_eq ?_
  rw [BitVec.extractLsb'_toNat, BitVec.toNat_ofNat, Nat.shiftRight_eq_div_pow, Nat.pow_mul]

/-- The value of bytes that are the low digits of a number. -/
theorem leNat_of_digits {f : Nat → Byte} {n a x : Nat} (h : ∀ i < n, f (a + i) = BitVec.ofNat 8 (x / 256 ^ i)) :
    leNat f a n = x % 256 ^ n := by
  induction n generalizing a x with
  | zero => simp [leNat, Nat.mod_one]
  | succ n ih =>
    have hfirst : (f a).toNat = x % 256 := by
      have h0 := congrArg BitVec.toNat (h 0 (by omega))
      rwa [Nat.pow_zero, Nat.div_one] at h0
    have hrest : leNat f (a + 1) n = x / 256 % 256 ^ n := ih fun i hi => by
      have hi' := h (i + 1) (by omega)
      rwa [Nat.pow_succ', ← Nat.div_div_eq_div_mul, Nat.add_comm i, ← Nat.add_assoc] at hi'
    rw [leNat, hfirst, hrest, Nat.pow_succ', Nat.mod_mul]

/-- A little-endian store puts the bytes of the value there and leaves every other byte (R242). -/
theorem StoredBytes.of_storeLE (m : Memory) (a n : Nat) (v : Word) : StoredBytes m (Memory.storeLE m a n v) a n v where
  inside i hi := by rw [Memory.byteAt_storeLE_inside n hi, extractLsb'_byte]
  outside _ hb := Memory.byteAt_storeLE_outside n hb

/-- Where bytes have been stored their value is read back. -/
theorem leNat_byte_of_stored {s : State} {b : Bank} {m : Memory} {a n : Nat} {v : Word}
    (h : s.memory b = Memory.storeLE m a n v) : leNat (s.byte b) a n = v.toNat % 256 ^ n :=
  leNat_of_digits fun i hi => State.byte_of_byteAt (by rw [h, (StoredBytes.of_storeLE m a n v).inside i hi])

end Sys2Proof.Machine
end

section
/-! # Proofs of the family 20_memory: loads and stores of the TCM and of external memory (O27, O29, O33) -/

namespace Sys2Proof.Machine

open Sys2Proof

/-! ### The place -/

theorem dataPlace_tcm {c : Config} {a : Word} {n off : Nat} (k : AccessKind) (h : GoesToTcm c a n off) :
    dataPlace c k a n = .tcm off := by
  obtain ⟨haligned, htimer, htcm, rfl, hfits⟩ := h
  simp [dataPlace, misaligned, haligned, htimer, htcm, hfits]

theorem dataPlace_ext {c : Config} {k : AccessKind} {a : Word} {n : Nat} (h : GoesToExt c k a n) :
    dataPlace c k a n = .ext a.toNat := by
  obtain ⟨haligned, htimer, htcm, hbus, hplain⟩ := h
  simp [dataPlace, misaligned, haligned, htimer, htcm, hbus, hplain]

/-! ### Loads -/

/-- A load extends the value of the bytes as its shape says (R350 to R355). -/
theorem loadShape_value {s : State} {i : Instr} {f : LoadShape} (h : loadShape s i = some f) (b : Nat → Byte)
    (a : Nat) : f.widen.apply (readLE b a f.size) = extended f.ext f.size (leNat b a f.size) := by
  cases i with
  | lb =>
    cases h
    exact congrArg sext (extractLsb'_readLE b a (n := 1) 8 (by omega))
  | lh =>
    cases h
    exact congrArg sext (extractLsb'_readLE b a (n := 2) 16 (by omega))
  | lbu | lhu | lw | cLw | cLwsp =>
    cases h
    exact readLE_eq_ofNat b a (by dsimp only; omega)
  | _ => cases h

/-- A load whose place holds bytes leaves their extended value in its register. -/
theorem answers_load {s : State} {i : Instr} {f : LoadShape} (hf : loadShape s i = some f) {b : Bank} {a : Nat}
    (h : s.memRead f.addr f.size = .done s (readLE (s.byte b) a f.size)) :
    Answers i s (fun t => RegDone s t f.rd (extended f.ext f.size (leNat (s.byte b) a f.size)) (s.pc + f.len)) := by
  refine ⟨_, ?_, .of_finish s f.rd _ f.len⟩
  rw [exec_loadShape hf, State.load, h, ← loadShape_value hf]
  rfl

/-- Settles O27: the place is the TCM or external memory, and the load reads its bytes. -/
theorem loadResults : Obligations.LoadResults := by
  refine fun s i f hf hq => ⟨fun off hgoes => answers_load hf ?_, fun hgoes => answers_load hf ?_⟩
  · rw [State.memRead_quiet hq, dataPlace_tcm .load hgoes]
  · rw [State.memRead_quiet hq, dataPlace_ext hgoes]

/-! ### Stores -/

section

variable {s : State} {i : Instr} {f : StoreShape} (hf : storeShape s i = some f)
  (hq : s.bpQuiet .store f.addr f.size = true)
include hf hq

theorem exec_store_tcm {off : Nat} (h : GoesToTcm s.cfg f.addr f.size off) :
    exec i s = .next ((s.storeTcm off f.size f.value).complete f.len) := by
  rw [exec_storeShape hf, State.store, State.memWrite_quiet hq, dataPlace_tcm .store h]

theorem exec_store_ext (h : GoesToExt s.cfg .store f.addr f.size) :
    exec i s = .next ((s.storeExt f.addr.toNat f.size f.value).complete f.len) := by
  rw [exec_storeShape hf, State.store, State.memWrite_quiet hq, dataPlace_ext h]

end

/-- Settles O29: the place is the TCM or external memory, and the store goes there. -/
theorem storeResults : Obligations.StoreResults := by
  refine fun s i f hf hq => ⟨fun off hgoes => ?_, fun hgoes => ?_⟩
  · exact ⟨_, exec_store_tcm hf hq hgoes, .of_storeLE s.tcm off f.size f.value, fun _ => rfl, rfl,
      .of_retired rfl, rfl⟩
  · exact ⟨_, exec_store_ext hf hq hgoes, .of_storeLE s.ext f.addr.toNat f.size f.value, fun _ => rfl, rfl,
      .of_retired rfl, rfl⟩

/-! ### A load after a store -/

/-- Settles O33: the load's place is the store's, whose bytes are the stored ones. -/
theorem loadAfterStoreGivesStoredValue : Obligations.LoadAfterStoreGivesStoredValue := by
  intro s u i j f g hf hu hg haddr hsize hqs hql hgoes
  obtain ⟨htcm, hext⟩ := loadResults u j g hg hql
  rw [haddr, hsize] at htcm hext
  rcases hgoes with ⟨off, hgoes⟩ | ⟨hstore, hload⟩
  · rw [exec_store_tcm hf hqs hgoes] at hu
    cases hu
    have hbytes := leNat_byte_of_stored (s := (s.storeTcm off f.size f.value).complete f.len) (b := .tcm) rfl
    rw [hsize, ← hbytes]
    exact htcm off hgoes
  · rw [exec_store_ext hf hqs hstore] at hu
    cases hu
    have hbytes :=
      leNat_byte_of_stored (s := (s.storeExt f.addr.toNat f.size f.value).complete f.len) (b := .ext) rfl
    rw [hsize, ← hbytes]
    exact hext hload

end Sys2Proof.Machine
end

section
/-! # Proofs of the family 20_memory: the words of instruction memory (O8)

A fetch reads aligned words; the statements speak of bytes. -/

namespace Sys2Proof.Machine

open Sys2Proof

/-! ### Aligned addresses -/

theorem wordAddr_toNat (a : Word) : (wordAddr a).toNat = 4 * (a.toNat / 4) := by
  have hmask : wordAddr a = a >>> 2 <<< 2 := by
    refine BitVec.eq_of_getLsbD_eq fun i hi => ?_
    rw [wordAddr]
    interval_cases i <;> simp
  rw [hmask, BitVec.toNat_shiftLeft, BitVec.toNat_ushiftRight, Nat.shiftRight_eq_div_pow, Nat.shiftLeft_eq]
  omega

theorem wordAddr_of_aligned {a : Word} (h : a.toNat % 4 = 0) : wordAddr a = a :=
  BitVec.eq_of_toNat_eq (by rw [wordAddr_toNat]; omega)

/-- The addresses of a word's four bytes. -/
theorem wordAddr_add_toNat (a : Word) {i : Nat} (hi : i < 4) :
    (wordAddr a + BitVec.ofNat 32 i).toNat = 4 * (a.toNat / 4) + i := by
  have ha := a.isLt
  rw [BitVec.toNat_add, wordAddr_toNat, BitVec.toNat_ofNat]
  omega

theorem wordAddr_wordAddr_add (a : Word) {i : Nat} (hi : i < 4) :
    wordAddr (wordAddr a + BitVec.ofNat 32 i) = wordAddr a :=
  BitVec.eq_of_toNat_eq (by rw [wordAddr_toNat, wordAddr_add_toNat a hi, wordAddr_toNat]; omega)

/-! ### The word in memory -/

/-- A byte of a word, by the memory that holds the word. -/
theorem instrByte_wordAddr_add (s : State) (a : Word) {i : Nat} (hi : i < 4) :
    instrByte s (wordAddr a + BitVec.ofNat 32 i) =
      if s.cfg.inTcm (wordAddr a) then s.byte .tcm (s.cfg.tcmOffset (wordAddr a) + i)
      else s.byte s.fetchBank ((wordAddr a).toNat + i) := by
  have hmod : (4 * (a.toNat / 4) + i) % 4 = i := by omega
  rw [instrByte, wordAddr_wordAddr_add a hi, wordAddr_add_toNat a hi, hmod]
  rfl

/-- The word in memory, as the machine reads it (R227, R245). -/
theorem memoryWord_eq (s : State) (a : Word) :
    memoryWord s a =
      if s.cfg.inTcm (wordAddr a) then readLE (s.byte .tcm) (s.cfg.tcmOffset (wordAddr a)) 4
      else readLE (s.byte s.fetchBank) (wordAddr a).toNat 4 := by
  rw [memoryWord, ← readLE_eq_ofNat _ _ le_rfl]
  split
  · next htcm =>
    exact readLE_congr le_rfl fun i hi => by rw [Nat.zero_add, instrByte_wordAddr_add s a hi, if_pos htcm]
  · next htcm =>
    exact readLE_congr le_rfl fun i hi => by rw [Nat.zero_add, instrByte_wordAddr_add s a hi, if_neg htcm]

/-- The word in memory, as its four bytes. -/
theorem memoryWord_eq_wordOfBytes (s : State) (a : Word) :
    memoryWord s a = wordOfBytes (instrByte s (wordAddr a)) (instrByte s (wordAddr a + 1#32))
      (instrByte s (wordAddr a + 2#32)) (instrByte s (wordAddr a + 3#32)) := by
  rw [memoryWord, ← readLE_eq_ofNat _ _ le_rfl, readLE_four, BitVec.add_zero]

/-! ### The queue -/

/-- A queued word is used only where the queue holds it and the slot names it (R252). -/
theorem State.mem_of_queuedWord {s : State} {w v : Word} (h : s.queuedWord w = some v) :
    (w, v) ∈ s.fetchQueue ∧ (w, v) ∈ s.slot.stale := by
  obtain ⟨p, hp, rfl⟩ := Option.map_eq_some_iff.mp h
  have hfound := List.find?_some hp
  simp only [Bool.and_eq_true, beq_iff_eq, List.contains_iff_mem] at hfound
  obtain ⟨rfl, hqueue⟩ := hfound
  exact ⟨hqueue, List.mem_of_find?_eq_some hp⟩

theorem State.queuedWord_of_fresh {s : State} (h : s.slot.stale = [] ∨ s.fetchQueue = []) (w : Word) :
    s.queuedWord w = none := by
  rcases h with h | h <;> simp [State.queuedWord, h]

/-- A slot that names one queued word has it used. -/
theorem State.queuedWord_of_named {s : State} {w v : Word} (hqueue : (w, v) ∈ s.fetchQueue)
    (hslot : s.slot.stale = [(w, v)]) : s.queuedWord w = some v := by
  simp [State.queuedWord, hslot, hqueue]

/-! ### The fetch of a word -/

theorem fetchReady_tcm {s : State} {a : Word} (h : s.cfg.inTcm (wordAddr a) = true) :
    FetchReady s a ↔ s.cfg.tcmOffset (wordAddr a) + 4 ≤ s.cfg.tcmSize := by
  rw [FetchReady, if_pos h]

theorem fetchReady_bus {s : State} {a : Word} (h : s.cfg.inTcm (wordAddr a) = false) :
    FetchReady s a ↔
      s.cfg.fetchAccessible (wordAddr a).toNat = true ∧ s.cfg.isDevice (wordAddr a).toNat 4 = false := by
  simp [FetchReady, h]

theorem State.fetchWord_of_queued {s : State} {w v : Word} (h : s.queuedWord w = some v) (tval : Word) :
    s.fetchWord w tval = .ok v := by
  rw [State.fetchWord, h]

section

variable {s : State} {a v tval : Word} (hq : s.queuedWord (wordAddr a) = none)
include hq

/-- Past the queue a fetch gives the word in memory, where that can be read, and no word otherwise (R245). -/
theorem State.fetchWord_ok_iff : s.fetchWord (wordAddr a) tval = .ok v ↔ FetchReady s a ∧ memoryWord s a = v := by
  rw [State.fetchWord, hq, memoryWord_eq]
  cases htcm : s.cfg.inTcm (wordAddr a) with
  | true =>
    rw [fetchReady_tcm htcm]
    by_cases hfits : s.cfg.tcmOffset (wordAddr a) + 4 ≤ s.cfg.tcmSize <;> simp [hfits]
  | false =>
    rw [fetchReady_bus htcm]
    cases s.cfg.fetchAccessible (wordAddr a).toNat <;> cases s.cfg.isDevice (wordAddr a).toNat 4 <;> simp

theorem State.fetchWord_of_ready (h : FetchReady s a) (tval : Word) :
    s.fetchWord (wordAddr a) tval = .ok (memoryWord s a) := (State.fetchWord_ok_iff hq).mpr ⟨h, rfl⟩

/-- A bus error is no answer (R472). -/
theorem State.fetchWord_of_fails (h : FetchFails s a) (tval : Word) :
    s.fetchWord (wordAddr a) tval = .noAnswer tval := by
  obtain ⟨htcm, hbus⟩ := h
  simp [State.fetchWord, hq, htcm, hbus]

end

/-- The trap value belongs to a fetch that fails: a word fetched does not depend on it. -/
theorem State.fetchWord_tval {s : State} {a v tval : Word} (h : s.fetchWord (wordAddr a) tval = .ok v) (tval' : Word) :
    s.fetchWord (wordAddr a) tval' = .ok v := by
  cases hq : s.queuedWord (wordAddr a) with
  | none => rwa [State.fetchWord_ok_iff hq] at h ⊢
  | some v' =>
    rw [State.fetchWord_of_queued hq] at h
    rwa [State.fetchWord_of_queued hq]

/-- A prefetch reads what a fetch would read (R252). -/
theorem State.plainWord_of_ready {s : State} {a : Word} (h : FetchReady s a) :
    s.plainWord a = some (memoryWord s a) := by
  simp only [State.plainWord, ← wordAddr.eq_1, memoryWord_eq]
  cases htcm : s.cfg.inTcm (wordAddr a) with
  | true =>
    rw [fetchReady_tcm htcm] at h
    simp [h]
  | false =>
    rw [fetchReady_bus htcm] at h
    simp [h]

/-! ### The halves of a word -/

theorem getLsbD_eq_decide (a : Word) (i : Nat) : a.getLsbD i = decide (a.toNat / 2 ^ i % 2 = 1) :=
  Nat.testBit_eq_decide_div_mod_eq

/-- The halves of a word (R227). -/
theorem halfAt_of_low {v a : Word} (h : a.toNat % 4 = 0) : halfAt v a = v.extractLsb' 0 16 := by
  rw [halfAt, getLsbD_eq_decide, if_neg (by simp; omega)]

theorem halfAt_of_high {v a : Word} (h : a.toNat % 4 = 2) : halfAt v a = v.extractLsb' 16 16 := by
  rw [halfAt, getLsbD_eq_decide, if_pos (by simp; omega)]

theorem wordOfBytes_low (b0 b1 b2 b3 : Byte) : (wordOfBytes b0 b1 b2 b3).extractLsb' 0 16 = halfOfBytes b0 b1 := by
  refine BitVec.eq_of_toNat_eq ?_
  rw [BitVec.extractLsb'_toNat, wordOfBytes_toNat, halfOfBytes_toNat]
  have := b0.isLt
  have := b1.isLt
  omega

theorem wordOfBytes_high (b0 b1 b2 b3 : Byte) : (wordOfBytes b0 b1 b2 b3).extractLsb' 16 16 = halfOfBytes b2 b3 := by
  refine BitVec.eq_of_toNat_eq ?_
  rw [BitVec.extractLsb'_toNat, wordOfBytes_toNat, halfOfBytes_toNat, Nat.shiftRight_eq_div_pow]
  have := b0.isLt
  have := b1.isLt
  have := b2.isLt
  have := b3.isLt
  omega

/-- A word is its two halves. -/
theorem put_halves_of_word (v : Word) : put 16 (v.extractLsb' 16 16) ||| put 0 (v.extractLsb' 0 16) = v := by
  have hfields := ((FieldsFrom.top 16 (v.extractLsb' 16 16)).or 0 (v.extractLsb' 0 16)).value
  refine BitVec.eq_of_toNat_eq (hfields.trans ?_)
  have hv := v.isLt
  rw [BitVec.extractLsb'_toNat, BitVec.extractLsb'_toNat, Nat.shiftRight_eq_div_pow]
  omega

theorem wordOfBytes_eq_halves (b0 b1 b2 b3 : Byte) :
    wordOfBytes b0 b1 b2 b3 = put 16 (halfOfBytes b2 b3) ||| put 0 (halfOfBytes b0 b1) := by
  rw [← wordOfBytes_low b0 b1 b2 b3, ← wordOfBytes_high b0 b1 b2 b3, put_halves_of_word]

/-- An even address is the first or the third of its word's. -/
theorem mod_four_of_even {a : Word} (h : a.getLsbD 0 = false) : a.toNat % 4 = 0 ∨ a.toNat % 4 = 2 := by
  rw [getLsbD_eq_decide, decide_eq_false_iff_not] at h
  omega

/-- The halfword at an even address, as its two bytes. -/
theorem halfAt_memoryWord (s : State) {a : Word} (h : a.getLsbD 0 = false) :
    halfAt (memoryWord s a) a = halfOfBytes (instrByte s a) (instrByte s (a + 1#32)) := by
  rw [memoryWord_eq_wordOfBytes]
  rcases mod_four_of_even h with hmod | hmod
  · rw [halfAt_of_low hmod, wordOfBytes_low, wordAddr_of_aligned hmod]
  · have h2 : wordAddr a + 2#32 = a :=
      BitVec.eq_of_toNat_eq ((wordAddr_add_toNat a (i := 2) (by omega)).trans (by omega))
    have h3 : wordAddr a + 3#32 = a + 1#32 := by
      conv_rhs => rw [← h2]
      rw [BitVec.add_assoc]
      rfl
    rw [halfAt_of_high hmod, wordOfBytes_high, h2, h3]

end Sys2Proof.Machine
end

section
/-! # Proofs of the family 20_memory: what a fetch gives (O8) -/

namespace Sys2Proof.Machine

open Sys2Proof

/-! ### The fetch of a halfword -/

theorem State.fetchHalf_of_word {s : State} {a v : Word} (h : s.fetchWord (wordAddr a) a = .ok v) :
    s.fetchHalf a = .ok (halfAt v a) := by
  simp only [State.fetchHalf, ← wordAddr.eq_1, h]

section

variable {s : State} {a : Word} (hfresh : s.slot.stale = [] ∨ s.fetchQueue = [])
include hfresh

theorem State.fetchHalf_of_ready (heven : a.getLsbD 0 = false) (h : FetchReady s a) :
    s.fetchHalf a = .ok (halfOfBytes (instrByte s a) (instrByte s (a + 1#32))) := by
  rw [State.fetchHalf_of_word (State.fetchWord_of_ready (State.queuedWord_of_fresh hfresh _) h a),
    halfAt_memoryWord s heven]

theorem State.fetchHalf_of_fails (h : FetchFails s a) : s.fetchHalf a = .noAnswer a := by
  simp only [State.fetchHalf, ← wordAddr.eq_1, State.fetchWord_of_fails (State.queuedWord_of_fresh hfresh _) h a]

end

/-! ### The fetch of a parcel -/

/-- The parcel that a halfword begins: itself, or with the next halfword a word (R245, R260). -/
def parcelOf (lo hi : Half) : Parcel := if quadrantOf lo = 3#2 then .c32 (put 16 hi ||| put 0 lo) else .c16 lo

theorem quadrantOf_eq_three_iff {h : Half} : quadrantOf h = 3#2 ↔ h.toNat % 4 = 3 := by
  rw [← BitVec.toNat_inj, quadrantOf, BitVec.extractLsb'_toNat]
  rfl

theorem quadrantOf_halfOfBytes_iff {b0 b1 : Byte} : quadrantOf (halfOfBytes b0 b1) = 3#2 ↔ b0.toNat % 4 = 3 := by
  rw [quadrantOf_eq_three_iff, halfOfBytes_toNat]
  omega

section

variable {s : State} {lo : Half} (hlo : s.fetchHalf s.pc = .ok lo)
include hlo

theorem State.fetch_of_halves {hi : Half} (hhi : quadrantOf lo = 3#2 → s.fetchHalf (s.pc + 2#32) = .ok hi) :
    s.fetch = .ok (parcelOf lo hi) := by
  unfold State.fetch parcelOf
  rw [hlo]
  by_cases hq : quadrantOf lo = 3#2
  · simp [hq, hhi hq]
  · simp [hq]

/-- Only the second half of a 32-bit instruction fails. -/
theorem State.fetch_of_secondFails {tval : Word} (hq : quadrantOf lo = 3#2)
    (hhi : s.fetchHalf (s.pc + 2#32) = .noAnswer tval) : s.fetch = .noAnswer tval := by
  unfold State.fetch
  rw [hlo]
  simp [hq, hhi]

end

theorem State.fetch_of_firstFails {s : State} {tval : Word} (h : s.fetchHalf s.pc = .noAnswer tval) :
    s.fetch = .noAnswer tval := by
  unfold State.fetch
  rw [h]

/-- At an aligned pc both halves are of the one word. -/
theorem State.fetch_of_alignedWord {s : State} {v : Word} (hpc : s.pc.toNat % 4 = 0)
    (h : s.fetchWord s.pc s.pc = .ok v) :
    s.fetch = .ok (parcelOf (v.extractLsb' 0 16) (v.extractLsb' 16 16)) := by
  have hword : wordAddr s.pc = s.pc := wordAddr_of_aligned hpc
  have hword2 : wordAddr (s.pc + 2#32) = s.pc := by
    have hsame := wordAddr_wordAddr_add s.pc (i := 2) (by omega)
    rwa [hword] at hsame
  have hpc2 : (s.pc + 2#32).toNat % 4 = 2 := by
    rw [BitVec.toNat_add, BitVec.toNat_ofNat]
    omega
  rw [← hword] at h
  have hlo := State.fetchHalf_of_word (State.fetchWord_tval h s.pc)
  have hhi := State.fetchHalf_of_word (a := s.pc + 2#32) (by rw [hword2, ← hword, State.fetchWord_tval h])
  rw [halfAt_of_low hpc] at hlo
  rw [halfAt_of_high hpc2] at hhi
  exact State.fetch_of_halves hlo fun _ => hhi

/-- The halves of a word make the word, or its low half alone (R245). -/
theorem parcelOf_word (v : Word) : parcelOf (v.extractLsb' 0 16) (v.extractLsb' 16 16) =
    if v.toNat % 4 ≠ 3 then .c16 (v.extractLsb' 0 16) else .c32 v := by
  have hlow : quadrantOf (v.extractLsb' 0 16) = 3#2 ↔ v.toNat % 4 = 3 := by
    rw [quadrantOf_eq_three_iff, BitVec.extractLsb'_toNat, Nat.shiftRight_zero]
    omega
  simp only [parcelOf, put_halves_of_word, hlow, ne_eq, ite_not]

/-- A fetch without an answer raises InstrAccessFault at the pc (R472, R523). -/
theorem State.fetchAndRun_noAnswer {s : State} {tval : Word} (h : s.fetch = .noAnswer tval) :
    ∃ t, s.fetchAndRun = .next t ∧ TrapTaken s t false 1#4 s.pc (some tval) := by
  refine ⟨_, ?_, TrapTaken.of_raise s .instrAccessFault tval⟩
  rw [State.fetchAndRun, h]
  rfl

/-- Settles O8: the queue first, then memory; the parcel's second half may fail alone. -/
theorem fetchResults : Obligations.FetchResults := by
  refine ⟨fun s a tval v h => ?_, fun s a tval v sl rest hqueue henv hstale => ?_, fun s a h => ?_,
    fun s v hpc h => ?_, fun s hfresh hfails => ?_, fun s hfresh heven hready hbyte hfails => ?_⟩
  · cases hq : s.queuedWord (wordAddr a) with
    | none =>
      obtain ⟨hready, hword⟩ := (State.fetchWord_ok_iff hq).mp h
      exact .inr ⟨hready, hword.symm⟩
    | some v' =>
      rw [State.fetchWord_of_queued hq] at h
      cases h
      exact .inl (State.mem_of_queuedWord hq)
  · have hslot : s.slot.stale = [(wordAddr a, v)] := by rw [State.slot, henv, ← hstale]
    exact State.fetchWord_of_queued (State.queuedWord_of_named hqueue hslot) tval
  · simp only [State.prefetch, State.plainWord_of_ready h, wordAddr]
  · rw [State.fetch_of_alignedWord hpc h, parcelOf_word]
  · exact State.fetchAndRun_noAnswer (State.fetch_of_firstFails (State.fetchHalf_of_fails hfresh hfails))
  · have hlo := State.fetchHalf_of_ready hfresh heven hready
    exact State.fetchAndRun_noAnswer
      (State.fetch_of_secondFails hlo (quadrantOf_halfOfBytes_iff.mpr hbyte) (State.fetchHalf_of_fails hfresh hfails))

end Sys2Proof.Machine
end

section
/-! # Proofs of the family 20_memory: the instruction at the pc (O6, O7)

The bytes at the pc are the parcel that the fetch gives, and what they decode to is what the hart runs. -/

namespace Sys2Proof

theorem decodeQ0_compressed {h : Half} {i : Instr} (hi : decodeQ0 h = .ok i) : i.ext = .compressed := by
  unfold decodeQ0 at hi
  repeat' split at hi
  all_goals cases hi
  all_goals rfl

theorem decodeQ1Arith_compressed {h : Half} {i : Instr} (hi : decodeQ1Arith h = .ok i) : i.ext = .compressed := by
  unfold decodeQ1Arith at hi
  repeat' split at hi
  all_goals cases hi
  all_goals rfl

theorem decodeQ1_compressed {h : Half} {i : Instr} (hi : decodeQ1 h = .ok i) : i.ext = .compressed := by
  by_cases harith : cFunct3Of h = 4#3
  · exact decodeQ1Arith_compressed (by simpa [decodeQ1, harith] using hi)
  · unfold decodeQ1 at hi
    rw [if_neg harith] at hi
    repeat' split at hi
    all_goals cases hi
    all_goals rfl

theorem decodeQ2_compressed {h : Half} {i : Instr} (hi : decodeQ2 h = .ok i) : i.ext = .compressed := by
  unfold decodeQ2 at hi
  repeat' split at hi
  all_goals cases hi
  all_goals rfl

/-- A halfword decodes to compressed instructions only (R274). -/
theorem decode16_compressed {h : Half} {i : Instr} (hi : decode16 h = .ok i) : i.ext = .compressed := by
  unfold decode16 at hi
  split at hi
  · exact decodeQ0_compressed hi
  split at hi
  · exact decodeQ1_compressed hi
  split at hi
  · exact decodeQ2_compressed hi
  · cases hi

end Sys2Proof

namespace Sys2Proof.Machine

open Sys2Proof

/-! ### The parcel at the pc -/

/-- The halfword of instruction memory at the pc. -/
def State.pcLow (s : State) : Half := halfOfBytes (instrByte s s.pc) (instrByte s (s.pc + 1#32))

/-- The halfword after it. -/
def State.pcHigh (s : State) : Half := halfOfBytes (instrByte s (s.pc + 2#32)) (instrByte s (s.pc + 3#32))

/-- The instruction bits at the pc in instruction memory (R245, R260). -/
def State.pcParcel (s : State) : Parcel := parcelOf s.pcLow s.pcHigh

/-- The bytes decode as the parcel does; a word leaves no byte over. -/
theorem decode_pcBytes (s : State) : decode (pcBytes s) = (decodeParcel s.pcParcel).map fun i =>
    (i, if quadrantOf s.pcLow = 3#2 then [] else [instrByte s (s.pc + 2#32), instrByte s (s.pc + 3#32)]) := by
  rw [State.pcParcel, parcelOf, pcBytes, decode]
  unfold State.pcLow State.pcHigh
  rw [← wordOfBytes_eq_halves]
  split
  · rw [decodeParcel]
    cases decode32 _ <;> rfl
  · rw [decodeParcel]
    cases decode16 _ <;> rfl

section

variable {s : State} (hfresh : s.slot.stale = [] ∨ s.fetchQueue = []) (heven : s.pc.getLsbD 0 = false)
include hfresh heven

theorem State.fetchHalf_pcLow (h : FetchReady s s.pc) : s.fetchHalf s.pc = .ok s.pcLow :=
  State.fetchHalf_of_ready hfresh heven h

theorem State.fetchHalf_pcHigh (h : FetchReady s (s.pc + 2#32)) : s.fetchHalf (s.pc + 2#32) = .ok s.pcHigh := by
  have heven2 : (s.pc + 2#32).getLsbD 0 = false := by rw [getLsbD_zero_add, heven]; rfl
  rw [State.fetchHalf_of_ready hfresh heven2 h, BitVec.add_assoc]
  rfl

theorem State.fetch_pcParcel (h : FetchReady s s.pc) (h2 : quadrantOf s.pcLow = 3#2 → FetchReady s (s.pc + 2#32)) :
    s.fetch = .ok s.pcParcel :=
  State.fetch_of_halves (State.fetchHalf_pcLow hfresh heven h) fun hq =>
    State.fetchHalf_pcHigh hfresh heven (h2 hq)

end

theorem State.fetchAndRun_of_fetch {s : State} {p : Parcel} (h : s.fetch = .ok p) : s.fetchAndRun = s.runFetched p := by
  rw [State.fetchAndRun, h]

/-! ### Running a parcel -/

/-- The zero halfword is C.Illegal, which is no instruction of a configuration without the C extension. -/
theorem State.runFetched_of_decoded {s : State} {p : Parcel} {i : Instr} (hdec : decodeParcel p = .ok i)
    (hex : i.existsIn s.cfg = true) : s.runFetched p = exec i s := by
  have hrun : s.runParcel p = exec i s := by simp [State.runParcel, decodeIn, hdec, hex]
  have hnonzero : s.cfg.rvc = true ∨ p ≠ .c16 0#16 := by
    by_cases hp : p = .c16 0#16
    · subst hp
      cases hdec
      exact .inl (Instr.rvc_of_existsIn rfl hex)
    · exact .inr hp
  rw [(s.runFetched_eq p).2 hnonzero, hrun]

/-- A parcel that is no instruction raises IllegalInstruction with its bits, or the zero halfword without the C
extension with the whole word (R449, R480, R523). -/
theorem State.runFetched_of_undecodable {s : State} {p : Parcel} {e : DecodeError} (hdec : decodeIn s.cfg p = .error e)
    (he : e ≠ .undefinedCNop ∨ s.cfg.rvc = false) :
    s.runFetched p = s.raise .illegalInstruction p.value ∨
      s.cfg.rvc = false ∧ p = .c16 0#16 ∧ s.runFetched p = s.raise .illegalInstruction s.zeroHalfValue := by
  have hrun : s.runParcel p = s.raise .illegalInstruction p.value := by
    rw [State.runParcel, hdec]
    cases e with
    | undefinedCNop =>
      have hc : s.cfg.rvc = false := he.resolve_left fun hne => hne rfl
      simp [hc]
    | _ => rfl
  by_cases hzero : s.cfg.rvc = false ∧ p = .c16 0#16
  · obtain ⟨hc, rfl⟩ := hzero
    rcases (s.runFetched_eq (.c16 0#16)).1 hc with hraise | hparcel
    · exact .inr ⟨hc, rfl, hraise⟩
    · exact .inl (hparcel.trans hrun)
  · rw [not_and_or, Bool.not_eq_false] at hzero
    exact .inl (((s.runFetched_eq p).2 hzero).trans hrun)

/-- Without the C extension no halfword is an instruction (R260). -/
theorem decodeIn_half {c : Config} (hc : c.rvc = false) (h : Half) : ∃ e, decodeIn c (.c16 h) = .error e := by
  cases hdec : decode16 h with
  | error e => exact ⟨e, by simp [decodeIn, decodeParcel, hdec]⟩
  | ok i =>
    have hex : i.existsIn c = false := by
      rw [← Bool.not_eq_true]
      intro hex
      have := Instr.rvc_of_existsIn (decode16_compressed hdec) hex
      rw [hc] at this
      cases this
    exact ⟨.unusedFunction, by simp [decodeIn, decodeParcel, hdec, hex]⟩

/-! ### The hart's step -/

section

variable {s : State} (h : AboutToExecute s)
include h

/-- Nothing comes before the fetch (R515 steps 0 to 5). -/
theorem AboutToExecute.hartStep_eq : s.hartStep = mapNext s.fetchAndRun State.afterInstr := by
  have hinterrupt : s.takesInterrupt = false := by
    rcases h.noInterrupt with hmie | hpending <;> simp [State.takesInterrupt, *]
  have hcheck : s.bpCheckExec = .done s () := by simp [State.bpCheckExec, h.noBreakpoint]
  rw [State.hartStep_run h.noReset h.outOfReset, State.runMode_instr h.runMode h.awake hinterrupt, State.instrStep,
    hcheck]

theorem AboutToExecute.trapTaken (hresumed : s.dbgc.resumed = false) {e : Cause} {info : Word}
    (hrun : s.fetchAndRun = s.raise e info) :
    ∃ t, s.hartStep = .next t ∧ TrapTaken s t false e.code s.pc (some info) := by
  refine ⟨_, ?_, TrapTaken.of_raise s e info⟩
  rw [h.hartStep_eq, hrun, State.raise_eq, mapNext_next,
    State.afterInstr_of_not_resumed (t := s.trapEntry false e.code s.pc info) hresumed]

end

/-- Settles O6: the fetch gives the parcel whose bytes were decoded. -/
theorem stepRunsTheDecodedInstruction : Obligations.StepRunsTheDecodedInstruction := by
  intro s i rest h hready hready2 hdec hex
  rw [decode_pcBytes] at hdec
  cases hp : decodeParcel s.pcParcel with
  | error e =>
    rw [hp] at hdec
    cases hdec
  | ok j =>
    rw [hp] at hdec
    cases hdec
    have hfetch : s.fetch = .ok s.pcParcel :=
      State.fetch_pcParcel h.fresh h.even hready fun hq => hready2 (if_pos hq)
    have hhart : s.hartStep = mapNext (exec i s) State.afterInstr := by
      rw [h.hartStep_eq, State.fetchAndRun_of_fetch hfetch, State.runFetched_of_decoded hp hex]
    rw [step, State.machineStep, if_pos h.legal, hhart]
    cases exec i s <;> rfl

/-! ### The trap values -/

theorem put_high_eq_ofNat (hi : Half) : (put 16 hi : Word) = BitVec.ofNat 32 (65536 * hi.toNat) := by
  have hvalue : (put 16 hi : Word).toNat = 65536 * hi.toNat := (FieldsFrom.top 16 hi).value
  rw [← BitVec.setWidth_eq (put 16 hi : Word), ← BitVec.ofNat_toNat, hvalue]

/-- The instruction bits as a trap value (R523). -/
theorem parcelOf_value (lo hi : Half) :
    lo.toNat % 4 ≠ 3 ∧ (parcelOf lo hi).value = BitVec.ofNat 32 lo.toNat ∨
      lo.toNat % 4 = 3 ∧ (parcelOf lo hi).value = BitVec.ofNat 32 (lo.toNat + 65536 * hi.toNat) := by
  unfold parcelOf
  by_cases hq : quadrantOf lo = 3#2
  · have hvalue := ((FieldsFrom.top 16 hi).or 0 lo).value
    refine .inr ⟨quadrantOf_eq_three_iff.mp hq, ?_⟩
    rw [if_pos hq, Parcel.value, ← BitVec.setWidth_eq (put 16 hi ||| put 0 lo : Word), ← BitVec.ofNat_toNat, hvalue]
    congr 1
    omega
  · refine .inl ⟨mt quadrantOf_eq_three_iff.mpr hq, ?_⟩
    rw [if_neg hq, Parcel.value, BitVec.ofNat_toNat]

theorem low_of_parcelOf_c16 {lo hi h : Half} (heq : parcelOf lo hi = .c16 h) : lo = h := by
  unfold parcelOf at heq
  split at heq
  · cases heq
  · exact Parcel.c16.inj heq

theorem State.zeroHalfValue_eq {s : State} (h : s.fetchHalf (s.pc + 2#32) = .ok s.pcHigh) :
    s.zeroHalfValue = BitVec.ofNat 32 (65536 * s.pcHigh.toNat) := by
  rw [State.zeroHalfValue, h]
  exact put_high_eq_ofNat _

/-- Bytes that decode to nothing, and without the C extension a halfword, are a parcel that is no instruction. -/
theorem decodeIn_pcParcel {s : State} (h : (∃ e, decode (pcBytes s) = .error e ∧ e ≠ .undefinedCNop) ∨
    (s.cfg.rvc = false ∧ (instrByte s s.pc).toNat % 4 ≠ 3)) :
    ∃ e, decodeIn s.cfg s.pcParcel = .error e ∧ (e ≠ .undefinedCNop ∨ s.cfg.rvc = false) := by
  rcases h with ⟨e, hdec, hne⟩ | ⟨hc, hlow⟩
  · rw [decode_pcBytes] at hdec
    cases hp : decodeParcel s.pcParcel with
    | ok i =>
      rw [hp] at hdec
      cases hdec
    | error e' =>
      rw [hp] at hdec
      cases hdec
      exact ⟨e, by rw [decodeIn, hp], .inl hne⟩
  · have hq : quadrantOf s.pcLow ≠ 3#2 := mt quadrantOf_halfOfBytes_iff.mp hlow
    obtain ⟨e, he⟩ := decodeIn_half hc s.pcLow
    exact ⟨e, by rw [State.pcParcel, parcelOf, if_neg hq, he], .inr hc⟩

/-- Settles O7: the parcel at the pc is no instruction, so it raises with its bits. -/
theorem undecodableBytesRaiseIllegal : Obligations.UndecodableBytesRaiseIllegal := by
  intro s h hresumed hready hready2 hbytes
  obtain ⟨e, hdec, he⟩ := decodeIn_pcParcel hbytes
  have hrun := State.fetchAndRun_of_fetch (State.fetch_pcParcel h.fresh h.even hready fun _ => hready2)
  have hword : s.pcLow.toNat + 65536 * (instrByte s (s.pc + 2#32)).toNat
      + 16777216 * (instrByte s (s.pc + 3#32)).toNat = s.pcLow.toNat + 65536 * s.pcHigh.toNat := by
    rw [State.pcHigh, halfOfBytes_toNat]
    omega
  rcases State.runFetched_of_undecodable hdec he with hraise | ⟨hc, hzero, hraise⟩
  · obtain ⟨t, ht, htrap⟩ := h.trapTaken hresumed (hrun.trans hraise)
    refine ⟨t, _, s.pcLow.toNat, halfOfBytes_toNat _ _, ht, htrap, ?_⟩
    rw [hword]
    exact (parcelOf_value s.pcLow s.pcHigh).imp_right fun ⟨hlow, hvalue⟩ => ⟨.inl hlow, hvalue⟩
  · obtain ⟨t, ht, htrap⟩ := h.trapTaken hresumed (hrun.trans hraise)
    have hlow : s.pcLow.toNat = 0 := congrArg BitVec.toNat (low_of_parcelOf_c16 hzero)
    refine ⟨t, _, s.pcLow.toNat, halfOfBytes_toNat _ _, ht, htrap, .inr ⟨.inr ⟨hc, hlow⟩, ?_⟩⟩
    rw [hword, hlow, Nat.zero_add]
    exact State.zeroHalfValue_eq (State.fetchHalf_pcHigh h.fresh h.even hready2)

end Sys2Proof.Machine
end

section
/-! # Proofs of the family 20_memory: FENCE and FENCE.I (O34) -/

namespace Sys2Proof.Machine

open Sys2Proof

/-! ### The two instructions -/

theorem exec_fence (pred succ : BitVec 4) (s : State) : exec (.fence pred succ) s = .next (s.complete 4#32) := rfl

theorem exec_fenceI (s : State) : exec .fenceI s = .next ({ s with fetchQueue := [] }.complete 4#32) := rfl

/-- With the queue empty every fetch reads memory (R252, R366). -/
theorem State.fetchWord_of_emptyQueue {s : State} {a : Word} (hqueue : s.fetchQueue = []) (h : FetchReady s a)
    (tval : Word) : s.fetchWord (wordAddr a) tval = .ok (memoryWord s a) :=
  State.fetchWord_of_ready (State.queuedWord_of_fresh (.inr hqueue) _) h tval

/-! ### Stores and instruction memory -/

/-- The word in instruction memory depends on the TCM and on the memory behind the instruction bus only (R227, R236). -/
theorem memoryWord_congr {s u : State} (hcfg : u.cfg = s.cfg) (htcm : u.byte .tcm = s.byte .tcm)
    (hbus : u.byte s.fetchBank = s.byte s.fetchBank) (a : Word) : memoryWord u a = memoryWord s a := by
  have hbank : u.fetchBank = s.fetchBank := by rw [State.fetchBank, hcfg, State.fetchBank]
  rw [memoryWord_eq, memoryWord_eq, hcfg, htcm, hbank, hbus]

/-- Where a word has been stored it is read back. -/
theorem readLE_of_stored {s : State} {b : Bank} {m : Memory} {a : Nat} {v : Word}
    (h : s.memory b = Memory.storeLE m a 4 v) : readLE (s.byte b) a 4 = v := by
  have hv := v.isLt
  refine BitVec.eq_of_toNat_eq ?_
  rw [readLE_toNat _ _ le_rfl, leNat_byte_of_stored h]
  omega

section

variable {u : State} {a v : Word} {m : Memory} (hqueue : u.fetchQueue = []) (tval : Word)
include hqueue

theorem State.fetchWord_of_storedTcm {off : Nat} (hgoes : GoesToTcm u.cfg a 4 off)
    (hm : u.tcm = Memory.storeLE m off 4 v) : u.fetchWord a tval = .ok v := by
  obtain ⟨haligned, -, htcm, rfl, hfits⟩ := hgoes
  rw [← wordAddr_of_aligned haligned] at htcm hfits hm ⊢
  rw [State.fetchWord_of_emptyQueue hqueue ((fetchReady_tcm htcm).mpr hfits), memoryWord_eq, if_pos htcm,
    readLE_of_stored (b := .tcm) hm]

theorem State.fetchWord_of_storedExt {k : AccessKind} (hgoes : GoesToExt u.cfg k a 4)
    (hunified : u.cfg.unifiedExternalMemory = true) (hready : FetchReady u a)
    (hm : u.ext = Memory.storeLE m a.toNat 4 v) : u.fetchWord a tval = .ok v := by
  have hbank : u.fetchBank = .ext := if_pos hunified
  have hword : wordAddr a = a := wordAddr_of_aligned hgoes.aligned
  have hfetch := State.fetchWord_of_emptyQueue hqueue hready tval
  rw [hword] at hfetch
  rw [hfetch, memoryWord_eq, hword, if_neg (ne_true_of_eq_false hgoes.noTcm), hbank, readLE_of_stored (b := .ext) hm]

end

section

variable {s t u : State} {i : Instr} {f : StoreShape} (hf : storeShape s i = some f) (ht : exec i s = .next t)
  (hu : exec .fenceI t = .next u)
include hf ht hu

/-- Where instruction memory is separate, a store to external data memory changes no word of it (R236). -/
theorem memoryWord_of_separate (hq : s.bpQuiet .store f.addr f.size = true)
    (hgoes : GoesToExt s.cfg .store f.addr f.size) (hsep : s.cfg.unifiedExternalMemory = false) (a : Word) :
    memoryWord u a = memoryWord s a := by
  have hbank : s.fetchBank = .extI := if_neg (ne_true_of_eq_false hsep)
  rw [exec_store_ext hf hq hgoes] at ht
  cases ht
  cases hu
  apply memoryWord_congr
  · rfl
  · rfl
  · rw [hbank]
    rfl

/-- A word stored where instructions are fetched is the word fetched after FENCE.I (R366). -/
theorem fetchWord_of_stored (hsize : f.size = 4) (hq : s.bpQuiet .store f.addr 4 = true)
    (hgoes : (∃ off, GoesToTcm s.cfg f.addr 4 off) ∨
      (GoesToExt s.cfg .store f.addr 4 ∧ s.cfg.unifiedExternalMemory = true ∧ FetchReady s f.addr)) (tval : Word) :
    u.fetchWord f.addr tval = .ok f.value := by
  obtain ⟨addr, size, value, len⟩ := f
  cases hsize
  rcases hgoes with ⟨off, hgoes⟩ | ⟨hgoes, hunified, hready⟩
  · rw [exec_store_tcm hf hq hgoes] at ht
    cases ht
    cases hu
    exact State.fetchWord_of_storedTcm rfl tval hgoes rfl
  · rw [exec_store_ext hf hq hgoes] at ht
    cases ht
    cases hu
    exact State.fetchWord_of_storedExt rfl tval hgoes hunified hready rfl

end

/-- Settles O34: FENCE completes, FENCE.I empties the queue as well, and the fetches after it read memory. -/
theorem fenceResults : Obligations.FenceResults := by
  refine ⟨fun s pred succ => ⟨⟨_, exec_fence pred succ s, .of_complete s 4#32⟩, _, exec_fenceI s, rfl, rfl, fun _ => rfl, .of_retired rfl,
      .of_eq rfl rfl rfl, rfl, fun a tval h => State.fetchWord_of_emptyQueue rfl h tval⟩, rfl, rfl, ?_, ?_⟩
  · exact fun s t u i f a hf hq ht hu hgoes hsep => memoryWord_of_separate hf ht hu hq hgoes hsep a
  · exact fun s t u i f tval hf hsize hq ht hu hgoes => fetchWord_of_stored hf ht hu hsize hq hgoes tval

end Sys2Proof.Machine
end

section
/-! # Proofs of the family 30_encoding: words and halfwords from their fields (O2)

The converse of Laws/Encoding.lean: bits whose fields are the operands are the bits that the encoder builds from them.
The encoder places adjacent fields, and adjacent fields of one vector join to a longer field of it. -/

namespace Sys2Proof

/-! ### Fields of a vector -/

@[simp] theorem put_or_put_adjacent {w m n lo mid : Nat} (x : BitVec w) (h : lo + n = mid) :
    (put mid (x.extractLsb' mid m) ||| put lo (x.extractLsb' lo n) : BitVec w) = put lo (x.extractLsb' lo (n + m)) := by
  subst h
  refine BitVec.eq_of_getLsbD_eq fun i hi => ?_
  simp only [put, BitVec.getLsbD_or, BitVec.getLsbD_shiftLeft, BitVec.getLsbD_setWidth, BitVec.getLsbD_extractLsb']
  by_cases hlo : i < lo
  · have hmid : i < lo + n := by omega
    simp [hlo, hmid]
  · obtain ⟨k, rfl⟩ := Nat.exists_eq_add_of_le (not_lt.mp hlo)
    by_cases hk : k < n
    · have hkm : k < n + m := by omega
      have hkw : k < w := by omega
      simp [hi, hk, hkm, hkw]
    · obtain ⟨j, rfl⟩ := Nat.exists_eq_add_of_le (not_lt.mp hk)
      have hj : lo + (n + j) - (lo + n) = j := by omega
      have hjw : j < w := by omega
      have hnjw : n + j < w := by omega
      simp [hi, hj, hjw, hnjw, Nat.add_assoc]

@[simp] theorem put_self {w : Nat} (x : BitVec w) : put 0 x = x := by
  simp [put]

@[simp] theorem put_zero (n w lo : Nat) : (put lo 0#n : BitVec w) = 0#w := by
  simp [put]

@[simp] theorem extractLsb'_put {n w lo : Nat} (v : BitVec n) (h : lo + n ≤ w) :
    (put lo v : BitVec w).extractLsb' lo n = v := by
  refine BitVec.eq_of_getLsbD_eq fun i hi => ?_
  have hlo : lo + i < w := by omega
  simp [put, hi, hlo]

@[simp] theorem extractLsb'_extractLsb' {w s n start len : Nat} (x : BitVec w) (h : start + len ≤ n) :
    (x.extractLsb' s n).extractLsb' start len = x.extractLsb' (s + start) len := by
  refine BitVec.eq_of_getLsbD_eq fun i hi => ?_
  have hn : start + i < n := by omega
  simp [hi, hn, Nat.add_assoc]

/-- A field placed elsewhere is not seen. -/
@[simp] theorem extractLsb'_put_of_disjoint {n k w lo start : Nat} (v : BitVec n)
    (h : lo + n ≤ start ∨ start + k ≤ lo) :
    (put lo v : BitVec w).extractLsb' start k = 0#k := by
  refine BitVec.eq_of_getLsbD_eq fun i hi => ?_
  simp only [put, BitVec.getLsbD_extractLsb', BitVec.getLsbD_shiftLeft, BitVec.getLsbD_setWidth, BitVec.getLsbD_zero]
  rcases h with h | h
  · simp [BitVec.getLsbD_of_ge v (start + i - lo) (by omega)]
  · have hlo : start + i < lo := by omega
    simp [hlo]

/-! ### The 32-bit formats (R261, R262) -/

section

variable {w : Word}

theorem rWord_of_fields {f7 : BitVec 7} {f3 : BitVec 3} {op : BitVec 7} (h7 : funct7Of w = f7)
    (h3 : funct3Of w = f3) (hop : opcodeOf w = op) : rWord f7 (rs2Of w) (rs1Of w) f3 (rdOf w) op = w := by
  subst h7 h3 hop
  simp [rWord, funct7Of, rs2Of, rs1Of, funct3Of, rdOf, opcodeOf]

theorem iWord_of_fields {imm : BitVec 12} {rs1 rd : Reg} {f3 : BitVec 3} {op : BitVec 7} (himm : immIOf w = imm)
    (hrs1 : rs1Of w = rs1) (h3 : funct3Of w = f3) (hrd : rdOf w = rd) (hop : opcodeOf w = op) :
    iWord imm rs1 f3 rd op = w := by
  subst himm hrs1 h3 hrd hop
  simp [iWord, immIOf, rs1Of, funct3Of, rdOf, opcodeOf]

theorem sWord_of_fields {f3 : BitVec 3} (h3 : funct3Of w = f3) (hop : opcodeOf w = 0b0100011#7) :
    sWord (immSOf w) (rs2Of w) (rs1Of w) f3 = w := by
  subst h3
  rw [sWord, ← hop]
  simp [immSOf, BitVec.extractLsb'_or, rs2Of, rs1Of, funct3Of, opcodeOf]

theorem bWord_of_fields {f3 : BitVec 3} (h3 : funct3Of w = f3) (hop : opcodeOf w = 0b1100011#7) :
    bWord (immBOf w) (rs2Of w) (rs1Of w) f3 = w := by
  subst h3
  rw [bWord, ← hop]
  simp [immBOf, BitVec.extractLsb'_or, rs2Of, rs1Of, funct3Of, opcodeOf]

theorem uWord_of_fields {op : BitVec 7} (hop : opcodeOf w = op) : uWord (immUOf w) (rdOf w) op = w := by
  subst hop
  simp [uWord, immUOf, rdOf, opcodeOf]

theorem jWord_of_fields (hop : opcodeOf w = 0b1101111#7) : jWord (immJOf w) (rdOf w) = w := by
  rw [jWord, ← hop]
  simp [immJOf, BitVec.extractLsb'_or, rdOf, opcodeOf]

end

/-! ### The 16-bit formats (R271 to R273) -/

section

variable {h : Half}

theorem ciHalf_of_fields {f3 : BitVec 3} {imm : BitVec 6} {rd : Reg} {q : BitVec 2} (h3 : cFunct3Of h = f3)
    (himm : immCIOf h = imm) (hrd : cRdOf h = rd) (hq : quadrantOf h = q) : ciHalf f3 imm rd q = h := by
  subst h3 himm hrd hq
  simp [ciHalf, immCIOf, BitVec.extractLsb'_or, cFunct3Of, cRdOf, quadrantOf]

theorem crHalf_of_fields {f3 : BitVec 3} {f1 : BitVec 1} {rd rs2 : Reg} (h3 : cFunct3Of h = f3)
    (h1 : cBit12Of h = f1) (hrd : cRdOf h = rd) (hrs2 : cRs2Of h = rs2) (hq : quadrantOf h = 2#2) :
    crHalf f3 f1 rd rs2 = h := by
  subst h3 h1 hrd hrs2
  rw [crHalf, ← hq]
  simp [cFunct3Of, cBit12Of, cRdOf, cRs2Of, quadrantOf]

theorem cbArithHalf_of_fields {b12 : BitVec 1} {f2 : BitVec 2} {low : BitVec 5} (h12 : cBit12Of h = b12)
    (h2 : h.extractLsb' 10 2 = f2) (hlow : cRs2Of h = low) (h3 : cFunct3Of h = 4#3) (hq : quadrantOf h = 1#2) :
    cbArithHalf b12 f2 (cHighOf h) low = h := by
  subst h12 h2 hlow
  rw [cbArithHalf, ← h3, ← hq]
  simp [cFunct3Of, cBit12Of, cHighOf, cRs2Of, quadrantOf]

/-- The format leaves bit 12 at zero. -/
theorem csArithHalf_of_fields {f2 : BitVec 2} (h12 : cBit12Of h = 0#1) (hgroup : h.extractLsb' 10 2 = 3#2)
    (h2 : h.extractLsb' 5 2 = f2) (h3 : cFunct3Of h = 4#3) (hq : quadrantOf h = 1#2) :
    csArithHalf (cHighOf h) f2 (cLowOf h) = h := by
  have htop : (put 13 0b100#3 : Half) = put 13 (cFunct3Of h) ||| put 12 (cBit12Of h) := by
    simp [h3, h12]
  subst h2
  rw [csArithHalf, htop, ← hgroup, ← hq]
  simp [cFunct3Of, cBit12Of, cHighOf, cLowOf, quadrantOf]

theorem clHalf_of_fields {f3 : BitVec 3} (h3 : cFunct3Of h = f3) (hq : quadrantOf h = 0#2) :
    clHalf f3 (immClOf h) (cHighOf h) (cLowOf h) = h := by
  subst h3
  rw [clHalf, ← hq]
  simp [immClOf, BitVec.extractLsb'_or, cFunct3Of, cHighOf, cLowOf, quadrantOf]

theorem ciwHalf_of_fields (h3 : cFunct3Of h = 0#3) (hq : quadrantOf h = 0#2) :
    ciwHalf (immCiwOf h) (cLowOf h) = h := by
  rw [ciwHalf, ← h3, ← hq]
  simp [immCiwOf, BitVec.extractLsb'_or, cFunct3Of, cLowOf, quadrantOf]

theorem cjHalf_of_fields {f3 : BitVec 3} (h3 : cFunct3Of h = f3) (hq : quadrantOf h = 1#2) :
    cjHalf f3 (immCjOf h) = h := by
  subst h3
  rw [cjHalf, ← hq]
  simp [immCjOf, BitVec.extractLsb'_or, cFunct3Of, quadrantOf]

theorem cbHalf_of_fields {f3 : BitVec 3} (h3 : cFunct3Of h = f3) (hq : quadrantOf h = 1#2) :
    cbHalf f3 (immCbOf h) (cHighOf h) = h := by
  subst h3
  rw [cbHalf, ← hq]
  simp [immCbOf, BitVec.extractLsb'_or, cFunct3Of, cHighOf, quadrantOf]

theorem c16spHalf_of_fields (h3 : cFunct3Of h = 3#3) (hrd : cRdOf h = 2#5) (hq : quadrantOf h = 1#2) :
    c16spHalf (immC16spOf h) = h := by
  rw [c16spHalf, ← h3, ← hrd, ← hq]
  simp [immC16spOf, BitVec.extractLsb'_or, cFunct3Of, cRdOf, quadrantOf]

theorem clwspHalf_of_fields (h3 : cFunct3Of h = 2#3) (hq : quadrantOf h = 2#2) :
    clwspHalf (immClwspOf h) (cRdOf h) = h := by
  rw [clwspHalf, ← h3, ← hq]
  simp [immClwspOf, BitVec.extractLsb'_or, cFunct3Of, cRdOf, quadrantOf]

theorem cswspHalf_of_fields (h3 : cFunct3Of h = 6#3) (hq : quadrantOf h = 2#2) :
    cswspHalf (immCswspOf h) (cRs2Of h) = h := by
  rw [cswspHalf, ← h3, ← hq]
  simp [immCswspOf, BitVec.extractLsb'_or, cFunct3Of, cRs2Of, quadrantOf]

end

/-! ### Fields of the immediates -/

theorem immCIOf_high (h : Half) : (immCIOf h).extractLsb' 5 1 = cBit12Of h := by
  simp [immCIOf, cBit12Of, BitVec.extractLsb'_or]

theorem immCIOf_low (h : Half) : (immCIOf h).extractLsb' 0 5 = cRs2Of h := by
  simp [immCIOf, cRs2Of, BitVec.extractLsb'_or]

/-- A shift amount below 32 is a CI immediate whose top bit is zero. -/
theorem immCIOf_of_bit12 {h : Half} (h12 : cBit12Of h = 0#1) : immCIOf h = put 0 (cRs2Of h) := by
  rw [immCIOf, ← cBit12Of, ← cRs2Of, h12, put_zero, BitVec.zero_or]

/-- FENCE's operands below a zero fm field are its I immediate (R265). -/
theorem immIOf_of_fm {w : Word} (hfm : w.extractLsb' 28 4 = 0#4) :
    immIOf w = put 4 (w.extractLsb' 24 4) ||| put 0 (w.extractLsb' 20 4) := by
  have hfields : immIOf w = put 8 ((immIOf w).extractLsb' 8 4) ||| put 4 ((immIOf w).extractLsb' 4 4)
      ||| put 0 ((immIOf w).extractLsb' 0 4) := by
    simp
  rw [hfields]
  simp [immIOf, hfm]

end Sys2Proof
end

section
/-! # Proofs of the family 30_encoding: the encoding of what the decoder gives (O2)

Each decoder gives an instruction whose format has the fields that the decoder took out. -/

namespace Sys2Proof

/-! ### The 32-bit decoders -/

/-- The funct3 that the tests for the other seven leave. -/
theorem eq_five_of_others_ne {f : BitVec 3} (h0 : f ≠ 0#3) (h1 : f ≠ 1#3) (h2 : f ≠ 2#3) (h3 : f ≠ 3#3)
    (h4 : f ≠ 4#3) (h6 : f ≠ 6#3) (h7 : f ≠ 7#3) : f = 5#3 := by bv_omega

theorem eq_seven_of_others_ne {f : BitVec 3} (h0 : f ≠ 0#3) (h1 : f ≠ 1#3) (h2 : f ≠ 2#3) (h3 : f ≠ 3#3)
    (h4 : f ≠ 4#3) (h5 : f ≠ 5#3) (h6 : f ≠ 6#3) : f = 7#3 := by bv_omega

section

variable {w : Word} {i : Instr}

theorem encode_of_decodeLoad (hop : opcodeOf w = 0b0000011#7) (h : decodeLoad w = .ok i) : encode i = .c32 w := by
  unfold decodeLoad at h
  repeat' split at h
  all_goals cases h
  all_goals exact congrArg Parcel.c32 (iWord_of_fields rfl rfl ‹_› rfl hop)

theorem encode_of_decodeStore (hop : opcodeOf w = 0b0100011#7) (h : decodeStore w = .ok i) : encode i = .c32 w := by
  unfold decodeStore at h
  repeat' split at h
  all_goals cases h
  all_goals exact congrArg Parcel.c32 (sWord_of_fields ‹_› hop)

theorem encode_of_decodeBranch (hop : opcodeOf w = 0b1100011#7) (h : decodeBranch w = .ok i) : encode i = .c32 w := by
  unfold decodeBranch at h
  repeat' split at h
  all_goals cases h
  all_goals exact congrArg Parcel.c32 (bWord_of_fields ‹_› hop)

/-- Six rows have an I immediate; under funct3 001 and 101 stand the shifts (R263). -/
theorem encode_of_decodeOpImm (hop : opcodeOf w = 0b0010011#7) (h : decodeOpImm w = .ok i) : encode i = .c32 w := by
  unfold decodeOpImm at h
  iterate 6
    obtain ⟨h3, h⟩ | ⟨hne, h⟩ := ite_eq_iff.mp h
    · cases h
      exact congrArg Parcel.c32 (iWord_of_fields rfl rfl h3 rfl hop)
  obtain ⟨h3, h⟩ | ⟨hne, h⟩ := ite_eq_iff.mp h
  · split at h <;> cases h
    exact congrArg Parcel.c32 (rWord_of_fields ‹_› h3 hop)
  · have h3 : funct3Of w = 5#3 := eq_five_of_others_ne ‹_› ‹_› ‹_› ‹_› ‹_› ‹_› ‹_›
    repeat' split at h
    all_goals cases h
    all_goals exact congrArg Parcel.c32 (rWord_of_fields ‹_› h3 hop)

theorem encode_of_decodeOpBase (hop : opcodeOf w = 0b0110011#7) (h7 : funct7Of w = 0#7)
    (h : decodeOpBase w = .ok i) : encode i = .c32 w := by
  unfold decodeOpBase at h
  iterate 7
    obtain ⟨h3, h⟩ | ⟨hne, h⟩ := ite_eq_iff.mp h
    · cases h
      exact congrArg Parcel.c32 (rWord_of_fields h7 h3 hop)
  have h3 : funct3Of w = 7#3 := eq_seven_of_others_ne ‹_› ‹_› ‹_› ‹_› ‹_› ‹_› ‹_›
  cases h
  exact congrArg Parcel.c32 (rWord_of_fields h7 h3 hop)

theorem encode_of_decodeOpMul (hop : opcodeOf w = 0b0110011#7) (h7 : funct7Of w = 1#7)
    (h : decodeOpMul w = .ok i) : encode i = .c32 w := by
  unfold decodeOpMul at h
  iterate 7
    obtain ⟨h3, h⟩ | ⟨hne, h⟩ := ite_eq_iff.mp h
    · cases h
      exact congrArg Parcel.c32 (rWord_of_fields h7 h3 hop)
  have h3 : funct3Of w = 7#3 := eq_seven_of_others_ne ‹_› ‹_› ‹_› ‹_› ‹_› ‹_› ‹_›
  cases h
  exact congrArg Parcel.c32 (rWord_of_fields h7 h3 hop)

theorem encode_of_decodeOp (hop : opcodeOf w = 0b0110011#7) (h : decodeOp w = .ok i) : encode i = .c32 w := by
  unfold decodeOp at h
  split at h
  · exact encode_of_decodeOpBase hop ‹_› h
  split at h
  · exact encode_of_decodeOpMul hop ‹_› h
  repeat' split at h
  all_goals cases h
  all_goals exact congrArg Parcel.c32 (rWord_of_fields ‹_› ‹_› hop)

theorem encode_of_decodeFence (hop : opcodeOf w = 0b0001111#7) (h : decodeFence w = .ok i) : encode i = .c32 w := by
  unfold decodeFence at h
  split at h
  · split at h <;> cases h
    next h3 hfields =>
    obtain ⟨hfm, hrs1, hrd⟩ := hfields
    exact congrArg Parcel.c32 (iWord_of_fields (immIOf_of_fm hfm) hrs1 h3 hrd hop)
  split at h
  · split at h <;> cases h
    next h3 hfields =>
    obtain ⟨himm, hrs1, hrd⟩ := hfields
    exact congrArg Parcel.c32 (iWord_of_fields himm hrs1 h3 hrd hop)
  · cases h

theorem encode_of_decodeSystem (hop : opcodeOf w = 0b1110011#7) (h : decodeSystem w = .ok i) : encode i = .c32 w := by
  unfold decodeSystem at h
  split at h
  · split at h
    · next h3 hfields =>
      obtain ⟨hrs1, hrd⟩ := hfields
      repeat' split at h
      all_goals cases h
      all_goals exact congrArg Parcel.c32 (iWord_of_fields ‹_› hrs1 h3 hrd hop)
    · cases h
  repeat' split at h
  all_goals cases h
  all_goals exact congrArg Parcel.c32 (iWord_of_fields rfl rfl ‹_› rfl hop)

theorem encode_of_decode32 (h : decode32 w = .ok i) : encode i = .c32 w := by
  unfold decode32 at h
  obtain ⟨hop, h⟩ | ⟨-, h⟩ := ite_eq_iff.mp h
  · cases h; exact congrArg Parcel.c32 (uWord_of_fields hop)
  obtain ⟨hop, h⟩ | ⟨-, h⟩ := ite_eq_iff.mp h
  · cases h; exact congrArg Parcel.c32 (uWord_of_fields hop)
  obtain ⟨hop, h⟩ | ⟨-, h⟩ := ite_eq_iff.mp h
  · cases h; exact congrArg Parcel.c32 (jWord_of_fields hop)
  obtain ⟨hop, h⟩ | ⟨-, h⟩ := ite_eq_iff.mp h
  · split at h <;> cases h
    exact congrArg Parcel.c32 (iWord_of_fields rfl rfl ‹_› rfl hop)
  obtain ⟨hop, h⟩ | ⟨-, h⟩ := ite_eq_iff.mp h
  · exact encode_of_decodeBranch hop h
  obtain ⟨hop, h⟩ | ⟨-, h⟩ := ite_eq_iff.mp h
  · exact encode_of_decodeLoad hop h
  obtain ⟨hop, h⟩ | ⟨-, h⟩ := ite_eq_iff.mp h
  · exact encode_of_decodeStore hop h
  obtain ⟨hop, h⟩ | ⟨-, h⟩ := ite_eq_iff.mp h
  · exact encode_of_decodeOpImm hop h
  obtain ⟨hop, h⟩ | ⟨-, h⟩ := ite_eq_iff.mp h
  · exact encode_of_decodeOp hop h
  obtain ⟨hop, h⟩ | ⟨-, h⟩ := ite_eq_iff.mp h
  · exact encode_of_decodeFence hop h
  obtain ⟨hop, h⟩ | ⟨-, h⟩ := ite_eq_iff.mp h
  · exact encode_of_decodeSystem hop h
  · cases h

end

/-! ### The 16-bit decoders -/

section

variable {h : Half} {i : Instr}

/-- Within C.ADDI4SPN's row the zero immediate is the defined illegal instruction only for the zero halfword. -/
theorem encode_of_decodeQ0 (hq : quadrantOf h = 0#2) (hi : decodeQ0 h = .ok i) : encode i = .c16 h := by
  unfold decodeQ0 at hi
  split at hi
  · next h3 =>
    have hhalf := ciwHalf_of_fields h3 hq
    split at hi
    · next himm =>
      split at hi <;> cases hi
      next hrd =>
      rw [himm, hrd] at hhalf
      exact congrArg Parcel.c16 hhalf
    · cases hi
      exact congrArg Parcel.c16 hhalf
  repeat' split at hi
  all_goals cases hi
  all_goals exact congrArg Parcel.c16 (clHalf_of_fields ‹_› hq)

theorem encode_of_decodeQ1Arith (hq : quadrantOf h = 1#2) (h3 : cFunct3Of h = 4#3) (hi : decodeQ1Arith h = .ok i) :
    encode i = .c16 h := by
  unfold decodeQ1Arith at hi
  split at hi
  · split at hi <;> cases hi
    exact congrArg Parcel.c16 (cbArithHalf_of_fields ‹_› ‹_› rfl h3 hq)
  split at hi
  · split at hi <;> cases hi
    exact congrArg Parcel.c16 (cbArithHalf_of_fields ‹_› ‹_› rfl h3 hq)
  split at hi
  · cases hi
    exact congrArg Parcel.c16
      (cbArithHalf_of_fields (immCIOf_high h).symm ‹_› (immCIOf_low h).symm h3 hq)
  have hgroup : h.extractLsb' 10 2 = 3#2 := by bv_omega
  split at hi
  · next h12 =>
    iterate 3
      split at hi
      · cases hi
        exact congrArg Parcel.c16 (csArithHalf_of_fields h12 hgroup ‹_› h3 hq)
    have hfunction : h.extractLsb' 5 2 = 3#2 := by bv_omega
    cases hi
    exact congrArg Parcel.c16 (csArithHalf_of_fields h12 hgroup hfunction h3 hq)
  · cases hi

theorem encode_of_decodeQ1 (hq : quadrantOf h = 1#2) (hi : decodeQ1 h = .ok i) : encode i = .c16 h := by
  unfold decodeQ1 at hi
  obtain ⟨h3, hi⟩ | ⟨hne0, hi⟩ := ite_eq_iff.mp hi
  · split at hi
    · split at hi <;> cases hi
      exact congrArg Parcel.c16 (ciHalf_of_fields h3 ‹_› ‹_› hq)
    · cases hi
      exact congrArg Parcel.c16 (ciHalf_of_fields h3 rfl rfl hq)
  obtain ⟨h3, hi⟩ | ⟨hne1, hi⟩ := ite_eq_iff.mp hi
  · cases hi; exact congrArg Parcel.c16 (cjHalf_of_fields h3 hq)
  obtain ⟨h3, hi⟩ | ⟨hne2, hi⟩ := ite_eq_iff.mp hi
  · cases hi; exact congrArg Parcel.c16 (ciHalf_of_fields h3 rfl rfl hq)
  obtain ⟨h3, hi⟩ | ⟨hne3, hi⟩ := ite_eq_iff.mp hi
  · split at hi
    · cases hi
    split at hi <;> cases hi
    · exact congrArg Parcel.c16 (c16spHalf_of_fields h3 ‹_› hq)
    · exact congrArg Parcel.c16 (ciHalf_of_fields h3 rfl rfl hq)
  obtain ⟨h3, hi⟩ | ⟨hne4, hi⟩ := ite_eq_iff.mp hi
  · exact encode_of_decodeQ1Arith hq h3 hi
  obtain ⟨h3, hi⟩ | ⟨hne5, hi⟩ := ite_eq_iff.mp hi
  · cases hi; exact congrArg Parcel.c16 (cjHalf_of_fields h3 hq)
  obtain ⟨h3, hi⟩ | ⟨hne6, hi⟩ := ite_eq_iff.mp hi
  · cases hi; exact congrArg Parcel.c16 (cbHalf_of_fields h3 hq)
  · have h3 : cFunct3Of h = 7#3 := eq_seven_of_others_ne hne0 hne1 hne2 hne3 hne4 hne5 hne6
    cases hi
    exact congrArg Parcel.c16 (cbHalf_of_fields h3 hq)

theorem encode_of_decodeQ2 (hq : quadrantOf h = 2#2) (hi : decodeQ2 h = .ok i) : encode i = .c16 h := by
  unfold decodeQ2 at hi
  split at hi
  · split at hi <;> cases hi
    exact congrArg Parcel.c16 (ciHalf_of_fields ‹_› (immCIOf_of_bit12 ‹_›) rfl hq)
  split at hi
  · split at hi <;> cases hi
    exact congrArg Parcel.c16 (clwspHalf_of_fields ‹_› hq)
  split at hi
  · next h4 =>
    split at hi
    · next h12 =>
      split at hi
      · split at hi <;> cases hi
        exact congrArg Parcel.c16 (crHalf_of_fields h4 h12 rfl ‹_› hq)
      · cases hi
        exact congrArg Parcel.c16 (crHalf_of_fields h4 h12 rfl rfl hq)
    · next h12 =>
      have hone : cBit12Of h = 1#1 := by bv_omega
      split at hi
      · split at hi <;> cases hi
        · exact congrArg Parcel.c16 (crHalf_of_fields h4 hone ‹_› ‹_› hq)
        · exact congrArg Parcel.c16 (crHalf_of_fields h4 hone rfl ‹_› hq)
      · cases hi
        exact congrArg Parcel.c16 (crHalf_of_fields h4 hone rfl rfl hq)
  split at hi <;> cases hi
  exact congrArg Parcel.c16 (cswspHalf_of_fields ‹_› hq)

theorem encode_of_decode16 (hi : decode16 h = .ok i) : encode i = .c16 h := by
  unfold decode16 at hi
  split at hi
  · exact encode_of_decodeQ0 ‹_› hi
  split at hi
  · exact encode_of_decodeQ1 ‹_› hi
  split at hi
  · exact encode_of_decodeQ2 ‹_› hi
  · cases hi

end

/-- What a parcel decodes to has that parcel as its encoding: no bit is ignored (R267, R281). -/
theorem encode_of_decodeParcel {p : Parcel} {i : Instr} (h : decodeParcel p = .ok i) : encode i = p := by
  cases p with
  | c16 half => exact encode_of_decode16 h
  | c32 w => exact encode_of_decode32 h

end Sys2Proof
end

section
/-! # Proofs of the family 30_encoding: decoding and encoding (O1, O2)

Decoding bytes is decoding the parcel at their head, and a parcel decodes to an instruction exactly when it is the
encoding of that instruction and the instruction is well-formed. -/

namespace Sys2Proof

/-! ### Decoding an encoding -/

/-- The rows of the base set and of M: each field of the word is the operand that the encoder put there. -/
theorem decodeParcel_encode_of_word {i : Instr} (h : i.wf = true) (hi : i.ext ≠ .compressed) :
    decodeParcel (encode i) = .ok i := by
  cases i with
  | lui | auipc => simp [encode, decodeParcel, decode32]
  | jal => simp_all [Instr.wf, encode, decodeParcel, decode32]
  | jalr => simp [encode, decodeParcel, decode32]
  | beq | bne | blt | bge | bltu | bgeu => simp_all [Instr.wf, encode, decodeParcel, decode32, decodeBranch]
  | lb | lh | lw | lbu | lhu => simp [encode, decodeParcel, decode32, decodeLoad]
  | sb | sh | sw => simp [encode, decodeParcel, decode32, decodeStore]
  | addi | slti | sltiu | xori | ori | andi | slli | srli | srai =>
    simp [encode, decodeParcel, decode32, decodeOpImm]
  | add | sll | slt | sltu | xor | srl | or | and => simp [encode, decodeParcel, decode32, decodeOp, decodeOpBase]
  | sub | sra => simp [encode, decodeParcel, decode32, decodeOp]
  | mul | mulh | mulhsu | mulhu | div | divu | rem | remu =>
    simp [encode, decodeParcel, decode32, decodeOp, decodeOpMul]
  | fence | fenceI => simp [encode, decodeParcel, decode32, decodeFence]
  | ecall | ebreak | mret | wfi => simp [encode, decodeParcel, decode32, decodeSystem]
  | csrrw | csrrs | csrrc | csrrwi | csrrsi | csrrci => simp [encode, decodeParcel, decode32, decodeSystem]
  | _ => exact absurd rfl hi

/-- The rows of C. -/
theorem decodeParcel_encode_of_half {i : Instr} (h : i.wf = true) (hi : i.ext = .compressed) :
    decodeParcel (encode i) = .ok i := by
  cases i with
  | cIllegal => rfl
  | cAddi4spn | cLw | cSw => simp_all [Instr.wf, encode, decodeParcel, decode16, decodeQ0]
  | cNop => rfl
  | cAddi16sp imm =>
    simp only [Instr.wf, Bool.and_eq_true, beq_iff_eq, bne_iff_ne] at h
    obtain ⟨hscaled, hne⟩ := h
    simp [encode, decodeParcel, decode16, decodeQ1, immCIOf_c16spHalf_ne_zero, *]
  | cAddi | cLi | cLui | cJal | cJ | cBeqz | cBnez =>
    simp_all [Instr.wf, encode, decodeParcel, decode16, decodeQ1]
  | cSrli | cSrai | cAndi | cSub | cXor | cOr | cAnd =>
    simp [encode, decodeParcel, decode16, decodeQ1, decodeQ1Arith]
  | cSlli | cLwsp | cJr | cMv | cEbreak | cJalr | cAdd | cSwsp =>
    simp_all [Instr.wf, encode, decodeParcel, decode16, decodeQ2]
  | _ => cases hi

theorem decodeParcel_encode {i : Instr} (h : i.wf = true) : decodeParcel (encode i) = .ok i := by
  by_cases hi : i.ext = .compressed
  · exact decodeParcel_encode_of_half h hi
  · exact decodeParcel_encode_of_word h hi

/-- The parcels that are instructions are the encodings of the well-formed instructions, each of one of them. -/
theorem decodeParcel_eq_ok_iff {p : Parcel} {i : Instr} : decodeParcel p = .ok i ↔ i.wf = true ∧ encode i = p := by
  constructor
  · exact fun h => ⟨decodeParcel_wf h, encode_of_decodeParcel h⟩
  · rintro ⟨hwf, rfl⟩
    exact decodeParcel_encode hwf

/-! ### The bytes of a parcel -/

/-- The length that the two lowest bits give is the parcel's length (R260). -/
def Parcel.LengthAgrees : Parcel → Prop
  | .c16 h => quadrantOf h ≠ 3#2
  | .c32 w => quadrantOf (w.extractLsb' 0 16) = 3#2

theorem quadrantOf_ne_three_of_decode16 {h : Half} {i : Instr} (hi : decode16 h = .ok i) : quadrantOf h ≠ 3#2 := by
  intro hq
  simp [decode16, hq] at hi

/-- Every used opcode ends in 11 (R266). -/
theorem quadrantOf_eq_three_of_decode32 {w : Word} {i : Instr} (h : decode32 w = .ok i) :
    quadrantOf (w.extractLsb' 0 16) = 3#2 := by
  have hlow : quadrantOf (w.extractLsb' 0 16) = (opcodeOf w).extractLsb' 0 2 := by
    simp [quadrantOf, opcodeOf]
  rw [hlow]
  by_contra hne
  have hop : ∀ op : BitVec 7, op.extractLsb' 0 2 = 3#2 → opcodeOf w ≠ op := by
    rintro op h3 rfl
    exact hne h3
  simp [decode32, hop] at h

theorem lengthAgrees_of_decodeParcel {p : Parcel} {i : Instr} (h : decodeParcel p = .ok i) : p.LengthAgrees := by
  cases p with
  | c16 half => exact quadrantOf_ne_three_of_decode16 h
  | c32 w => exact quadrantOf_eq_three_of_decode32 h

theorem halfOfBytes_of_half (h : Half) : halfOfBytes (h.extractLsb' 0 8) (h.extractLsb' 8 8) = h := by
  simp [halfOfBytes]

theorem wordOfBytes_of_word (w : Word) :
    wordOfBytes (w.extractLsb' 0 8) (w.extractLsb' 8 8) (w.extractLsb' 16 8) (w.extractLsb' 24 8) = w := by
  simp [wordOfBytes]

theorem decode_bytes_append {p : Parcel} (h : p.LengthAgrees) (rest : List Byte) :
    decode (p.bytes ++ rest) = (decodeParcel p).map fun i => (i, rest) := by
  cases p with
  | c16 half =>
    rw [← halfOfBytes_of_half half] at h
    rw [Parcel.bytes, List.cons_append, List.cons_append, List.nil_append, decode.eq_def]
    dsimp only
    rw [if_neg h, halfOfBytes_of_half, decodeParcel]
    cases decode16 half <;> rfl
  | c32 w =>
    have hlow : quadrantOf (halfOfBytes (w.extractLsb' 0 8) (w.extractLsb' 8 8)) = 3#2 := by
      rw [← Machine.wordOfBytes_low _ _ (w.extractLsb' 16 8) (w.extractLsb' 24 8), wordOfBytes_of_word]
      exact h
    rw [Parcel.bytes, List.cons_append, List.cons_append, List.cons_append, List.cons_append, List.nil_append, decode,
      if_pos hlow, wordOfBytes_of_word, decodeParcel]
    cases decode32 w <;> rfl

theorem bytes_halfOfBytes (b0 b1 : Byte) : Parcel.bytes (.c16 (halfOfBytes b0 b1)) = [b0, b1] := by
  simp [Parcel.bytes, halfOfBytes, BitVec.extractLsb'_or]

theorem bytes_wordOfBytes (b0 b1 b2 b3 : Byte) :
    Parcel.bytes (.c32 (wordOfBytes b0 b1 b2 b3)) = [b0, b1, b2, b3] := by
  simp [Parcel.bytes, wordOfBytes, BitVec.extractLsb'_or]

/-- Bytes that decode begin with the parcel that decodes. -/
theorem parcel_of_decode {bytes rest : List Byte} {i : Instr} (h : decode bytes = .ok (i, rest)) :
    ∃ p, decodeParcel p = .ok i ∧ bytes = p.bytes ++ rest := by
  unfold decode at h
  split at h
  · next b0 b1 tail =>
    split at h
    · split at h
      · next b2 b3 tail =>
        split at h <;> cases h
        exact ⟨.c32 (wordOfBytes b0 b1 b2 b3), ‹_›, by rw [bytes_wordOfBytes]; rfl⟩
      · cases h
    · split at h <;> cases h
      exact ⟨.c16 (halfOfBytes b0 b1), ‹_›, by rw [bytes_halfOfBytes]; rfl⟩
  · cases h

theorem decode_eq_ok_iff {bytes rest : List Byte} {i : Instr} :
    decode bytes = .ok (i, rest) ↔ ∃ p, decodeParcel p = .ok i ∧ bytes = p.bytes ++ rest := by
  constructor
  · exact parcel_of_decode
  · rintro ⟨p, hp, rfl⟩
    rw [decode_bytes_append (lengthAgrees_of_decodeParcel hp), hp]
    rfl

end Sys2Proof

namespace Sys2Proof.Machine

open Sys2Proof

/-- Settles O1: the bytes are those of the instruction's encoding, which decodes to it. -/
theorem decodeOfEncodeGivesInstruction : Obligations.DecodeOfEncodeGivesInstruction :=
  fun i _ hwf => decode_eq_ok_iff.mpr ⟨encode i, decodeParcel_encode hwf, rfl⟩

/-- Settles O2: the parcel at the head of the bytes is the encoding of what it decodes to. -/
theorem encodeOfDecodeGivesBytes : Obligations.EncodeOfDecodeGivesBytes := by
  intro bytes rest i h
  obtain ⟨p, hp, hbytes⟩ := decode_eq_ok_iff.mp h
  obtain ⟨hwf, rfl⟩ := decodeParcel_eq_ok_iff.mp hp
  exact ⟨hwf, hbytes⟩

end Sys2Proof.Machine
end

section
/-! # Proofs of the family 30_encoding: parcels that are no instruction (O4, O5) -/

namespace Sys2Proof.Machine

open Sys2Proof

/-! ### Running a parcel that is no instruction -/

/-- A parcel that is no instruction raises IllegalInstruction with its bits, but for C.NOP's undefined code
point under the C extension (R282, R480). -/
theorem State.runParcel_of_undecodable {s : State} {p : Parcel} {e : DecodeError} (hdec : decodeIn s.cfg p = .error e)
    (he : e ≠ .undefinedCNop ∨ s.cfg.rvc = false) :
    ∃ t, s.runParcel p = .next t ∧ TrapTaken s t false 2#4 s.pc (some p.value) := by
  refine ⟨_, ?_, TrapTaken.of_raise s .illegalInstruction p.value⟩
  rw [State.runParcel, hdec, ← State.raise_eq]
  cases e with
  | undefinedCNop =>
    have hc : s.cfg.rvc = false := he.resolve_left fun hne => hne rfl
    simp [hc]
  | _ => rfl

/-- A well-formed instruction that the configuration does not have is illegal (R260, R283, R400). -/
theorem State.runParcel_of_absent {s : State} {i : Instr} (hwf : i.wf = true) (hex : i.existsIn s.cfg = false) :
    ∃ t, s.runParcel (encode i) = .next t ∧ TrapTaken s t false 2#4 s.pc (some (encode i).value) := by
  have hdec : decodeIn s.cfg (encode i) = .error .unusedFunction := by
    simp [decodeIn, decodeParcel_encode hwf, hex]
  exact State.runParcel_of_undecodable hdec (.inl (by decide))

theorem existsIn_mulDiv {c : Config} {i : Instr} (hi : i.ext = .mulDiv) (hc : c.rvm = false) :
    i.existsIn c = false := by
  simp [Instr.existsIn, hi, hc]

theorem existsIn_highReg {c : Config} {i : Instr} {r : Reg} (hc : c.rve = true) (hr : r ∈ i.fullRegs)
    (h : 16 ≤ r.toNat) : i.existsIn c = false := by
  have hall : i.fullRegs.all (fun r => r.toNat < 16) = false := by
    rw [List.all_eq_false]
    exact ⟨r, hr, by simpa using h⟩
  simp [Instr.existsIn, hc, hall]

/-! ### Reserved halfwords -/

/-- The zero halfword is C.Illegal, whose trap value 0 is its own bits (R449). -/
theorem State.runParcel_zero {s : State} (hc : s.cfg.rvc = true) :
    ∃ t, s.runParcel (.c16 0#16) = .next t ∧ TrapTaken s t false 2#4 s.pc (some (Parcel.value (.c16 0#16))) := by
  refine ⟨_, ?_, TrapTaken.of_raise s .illegalInstruction (Parcel.value (.c16 0#16))⟩
  have hdec : decodeParcel (.c16 0#16) = .ok .cIllegal := rfl
  have hex : Instr.existsIn s.cfg .cIllegal = true := by simp [Instr.existsIn, Instr.ext, Instr.fullRegs, hc]
  simp only [State.runParcel, decodeIn, hdec, hex]
  rfl

theorem extractLsb'_zero_of_within {w s n start len : Nat} {x : BitVec w} (h : x.extractLsb' s n = 0#n)
    (hlo : s ≤ start) (hhi : start + len ≤ s + n) : x.extractLsb' start len = 0#len := by
  obtain ⟨k, rfl⟩ := Nat.exists_eq_add_of_le hlo
  rw [← extractLsb'_extractLsb' x (by omega : k + len ≤ n), h, BitVec.extractLsb'_zero]

section

variable {h : Half}

/-- The parts of C.ADDI4SPN's immediate are in bits 12..5 (R273). -/
theorem immCiwOf_zero (himm : h.extractLsb' 5 8 = 0#8) : immCiwOf h = 0#10 := by
  simp [immCiwOf, extractLsb'_zero_of_within himm]

theorem immCIOf_zero (h12 : cBit12Of h = 0#1) (hlow : cRs2Of h = 0#5) : immCIOf h = 0#6 := by
  rw [immCIOf_of_bit12 h12, hlow, put_zero]

/-- Without bit 11 the group is C.SRLI or C.SRAI (R274). -/
theorem shiftGroup_of_bit11 (h11 : h.extractLsb' 11 1 = 0#1) :
    h.extractLsb' 10 2 = 0#2 ∨ h.extractLsb' 10 2 = 1#2 := by
  have hhigh : (h.extractLsb' 10 2).extractLsb' 1 1 = 0#1 := by rw [extractLsb'_extractLsb' h (by omega), h11]
  have hdigit := congrArg BitVec.toNat hhigh
  rw [BitVec.extractLsb'_toNat, Nat.shiftRight_eq_div_pow] at hdigit
  bv_omega

/-- The zero halfword apart, the reserved rows of C.ADDI4SPN's funct3 (R282). -/
theorem decode16_addi4spn_zero (hq : quadrantOf h = 0#2) (h3 : cFunct3Of h = 0#3) (himm : immCiwOf h = 0#10) :
    h = 0#16 ∨ decode16 h = .error .reservedCompressed := by
  by_cases hrd : cLowOf h = 0#3
  · have hhalf := ciwHalf_of_fields h3 hq
    rw [himm, hrd] at hhalf
    exact .inl hhalf.symm
  · exact .inr (by simp [decode16, decodeQ0, hq, h3, himm, hrd])

theorem decode16_unusedQ0 (hq : quadrantOf h = 0#2) (h3 : cFunct3Of h = 1#3 ∨ cFunct3Of h = 3#3 ∨
    cFunct3Of h = 4#3 ∨ cFunct3Of h = 5#3 ∨ cFunct3Of h = 7#3) : decode16 h = .error .unusedCompressed := by
  rcases h3 with h3 | h3 | h3 | h3 | h3 <;> simp [decode16, decodeQ0, hq, h3]

theorem decode16_lui_zero (hq : quadrantOf h = 1#2) (h3 : cFunct3Of h = 3#3) (himm : immCIOf h = 0#6) :
    decode16 h = .error .reservedCompressed := by
  simp [decode16, decodeQ1, hq, h3, himm]

theorem decode16_longShift (hq : quadrantOf h = 1#2) (h3 : cFunct3Of h = 4#3) (h12 : cBit12Of h = 1#1)
    (hgroup : h.extractLsb' 10 2 = 0#2 ∨ h.extractLsb' 10 2 = 1#2) : decode16 h = .error .nonStandardShift := by
  rcases hgroup with hgroup | hgroup <;> simp [decode16, decodeQ1, decodeQ1Arith, hq, h3, h12, hgroup]

theorem decode16_subGroup (hq : quadrantOf h = 1#2) (h3 : cFunct3Of h = 4#3) (h12 : cBit12Of h = 1#1)
    (hgroup : h.extractLsb' 10 2 = 3#2) : decode16 h = .error .unusedCompressed := by
  simp [decode16, decodeQ1, decodeQ1Arith, hq, h3, h12, hgroup]

theorem decode16_longSlli (hq : quadrantOf h = 2#2) (h3 : cFunct3Of h = 0#3) (h12 : cBit12Of h = 1#1) :
    decode16 h = .error .nonStandardShift := by
  simp [decode16, decodeQ2, hq, h3, h12]

theorem decode16_lwsp_zero (hq : quadrantOf h = 2#2) (h3 : cFunct3Of h = 2#3) (hrd : cRdOf h = 0#5) :
    decode16 h = .error .reservedCompressed := by
  simp [decode16, decodeQ2, hq, h3, hrd]

theorem decode16_unusedQ2 (hq : quadrantOf h = 2#2) (h3 : cFunct3Of h = 1#3 ∨ cFunct3Of h = 3#3 ∨
    cFunct3Of h = 5#3 ∨ cFunct3Of h = 7#3) : decode16 h = .error .unusedCompressed := by
  rcases h3 with h3 | h3 | h3 | h3 <;> simp [decode16, decodeQ2, hq, h3]

end

theorem State.runParcel_of_decode16_error {s : State} {h : Half} {e : DecodeError} (hdec : decode16 h = .error e)
    (he : e ≠ .undefinedCNop) :
    ∃ t, s.runParcel (.c16 h) = .next t ∧ TrapTaken s t false 2#4 s.pc (some (h.setWidth 32)) := by
  have hin : decodeIn s.cfg (.c16 h) = .error e := by simp [decodeIn, decodeParcel, hdec]
  exact State.runParcel_of_undecodable hin (.inl he)

/-- Settles O4: each class is one row of the decoder's errors, but the zero halfword, which decodes to C.Illegal. -/
theorem reservedCompressedRaiseIllegal : Obligations.ReservedCompressedRaiseIllegal := by
  rintro s h hc (⟨hq, h3, himm⟩ | ⟨hq, h3⟩ | ⟨hq, h3, h12, hlow⟩ | ⟨hq, h3, h12, h11⟩ |
    ⟨hq, h3, h12, hgroup⟩ | ⟨hq, h3, h12⟩ | ⟨hq, h3, hrd⟩ | ⟨hq, h3⟩ | rfl)
  · rcases decode16_addi4spn_zero hq h3 (immCiwOf_zero himm) with rfl | hdec
    · exact State.runParcel_zero hc
    · exact State.runParcel_of_decode16_error hdec (by decide)
  · exact State.runParcel_of_decode16_error (decode16_unusedQ0 hq h3) (by decide)
  · exact State.runParcel_of_decode16_error (decode16_lui_zero hq h3 (immCIOf_zero h12 hlow)) (by decide)
  · exact State.runParcel_of_decode16_error (decode16_longShift hq h3 h12 (shiftGroup_of_bit11 h11)) (by decide)
  · exact State.runParcel_of_decode16_error (decode16_subGroup hq h3 h12 hgroup) (by decide)
  · exact State.runParcel_of_decode16_error (decode16_longSlli hq h3 h12) (by decide)
  · exact State.runParcel_of_decode16_error (decode16_lwsp_zero hq h3 hrd) (by decide)
  · exact State.runParcel_of_decode16_error (decode16_unusedQ2 hq h3) (by decide)
  · exact State.runParcel_of_decode16_error (e := .reservedCompressed) rfl (by decide)

/-! ### Absent instructions -/

/-- The second half of the word at an aligned pc (R227). -/
theorem State.fetchHalf_second_of_alignedWord {s : State} {v : Word} (hpc : s.pc.toNat % 4 = 0)
    (h : s.fetchWord s.pc s.pc = .ok v) : s.fetchHalf (s.pc + 2#32) = .ok (v.extractLsb' 16 16) := by
  have hword : wordAddr s.pc = s.pc := wordAddr_of_aligned hpc
  have hword2 : wordAddr (s.pc + 2#32) = s.pc := by
    simpa only [hword] using wordAddr_wordAddr_add s.pc (i := 2) (by omega)
  have hpc2 : (s.pc + 2#32).toNat % 4 = 2 := by
    rw [BitVec.toNat_add, BitVec.toNat_ofNat]
    omega
  rw [← hword2] at h
  rw [State.fetchHalf_of_word (State.fetchWord_tval h _), halfAt_of_high hpc2]

/-- R449's trap value is the whole word, whose low halfword is zero. -/
theorem State.zeroHalfValue_of_alignedWord {s : State} {v : Word} (hpc : s.pc.toNat % 4 = 0)
    (h : s.fetchWord s.pc s.pc = .ok v) (hlow : v.extractLsb' 0 16 = 0#16) : s.zeroHalfValue = v := by
  rw [State.zeroHalfValue, State.fetchHalf_second_of_alignedWord hpc h]
  conv_rhs => rw [← put_halves_of_word v, hlow, put_zero, BitVec.or_zero]

/-- Without the C extension a halfword raises with its bits, or the zero halfword with the whole word (R449, R523). -/
theorem State.fetchAndRun_of_alignedHalf {s : State} {v : Word} (hc : s.cfg.rvc = false) (hpc : s.pc.toNat % 4 = 0)
    (h : s.fetchWord s.pc s.pc = .ok v) (hlow : v.toNat % 4 ≠ 3) :
    s.fetchAndRun = s.raise .illegalInstruction (Parcel.value (.c16 (v.extractLsb' 0 16))) ∨
      v.extractLsb' 0 16 = 0#16 ∧ s.fetchAndRun = s.raise .illegalInstruction v := by
  have hfetch := State.fetch_of_alignedWord hpc h
  rw [parcelOf_word, if_pos hlow] at hfetch
  rw [State.fetchAndRun_of_fetch hfetch]
  obtain ⟨e, hdec⟩ := decodeIn_half hc (v.extractLsb' 0 16)
  refine (State.runFetched_of_undecodable hdec (.inr hc)).imp_right fun ⟨_, hzero, hraise⟩ => ?_
  have hlow := Parcel.c16.inj hzero
  rw [State.zeroHalfValue_of_alignedWord hpc h hlow] at hraise
  exact ⟨hlow, hraise⟩

theorem half_value (v : Word) : Parcel.value (.c16 (v.extractLsb' 0 16)) = BitVec.ofNat 32 (v.toNat % 65536) := by
  rw [Parcel.value, ← BitVec.ofNat_toNat, BitVec.extractLsb'_toNat, Nat.shiftRight_zero]

/-- Settles O5: the decoder gives the instruction, and the configuration does not have it. -/
theorem absentInstructionsRaiseIllegal : Obligations.AbsentInstructionsRaiseIllegal := by
  refine ⟨fun s i rd rs1 rs2 hc hi => ?_, fun s v hc hpc hword hlow => ?_, fun s i r hc hwf hr hhigh => ?_⟩
  · have hrow : i.wf = true ∧ i.ext = .mulDiv := by
      simp only [List.mem_cons, List.not_mem_nil, or_false] at hi
      rcases hi with rfl | rfl | rfl | rfl | rfl | rfl | rfl | rfl <;> exact ⟨rfl, rfl⟩
    exact State.runParcel_of_absent hrow.1 (existsIn_mulDiv hrow.2 hc)
  · rcases State.fetchAndRun_of_alignedHalf hc hpc hword hlow with hrun | ⟨hzero, hrun⟩
    · exact ⟨_, _, hrun, TrapTaken.of_raise s .illegalInstruction _, .inl (half_value v)⟩
    · have hdigits : v.toNat % 65536 = 0 := by simpa using congrArg BitVec.toNat hzero
      exact ⟨_, v, hrun, TrapTaken.of_raise s .illegalInstruction v, .inr ⟨hdigits, rfl⟩⟩
  · exact State.runParcel_of_absent hwf (existsIn_highReg hc hr hhigh)

end Sys2Proof.Machine
end

section
/-! # Proofs of the family 30_encoding: the compressed instructions with an immediate (O58) -/

namespace Sys2Proof.Machine

open Sys2Proof

/-! ### The instructions -/

theorem exec_cAddi4spn (rd : CReg) (imm : BitVec 10) (s : State) :
    exec (.cAddi4spn rd imm) s = s.finish (primed rd) (s.reg 2#5 + zext imm) 2#32 := rfl

theorem exec_cAddi (rd : Reg) (imm : BitVec 6) (s : State) :
    exec (.cAddi rd imm) s = s.finish rd (s.reg rd + sext imm) 2#32 := rfl

theorem exec_cLi (rd : Reg) (imm : BitVec 6) (s : State) : exec (.cLi rd imm) s = s.finish rd (sext imm) 2#32 := rfl

theorem exec_cAddi16sp (imm : BitVec 10) (s : State) :
    exec (.cAddi16sp imm) s = s.finish 2#5 (s.reg 2#5 + sext imm) 2#32 := rfl

theorem exec_cLui (rd : Reg) (imm : BitVec 6) (s : State) :
    exec (.cLui rd imm) s = s.finish rd (upperImmC imm) 2#32 := rfl

theorem exec_cSrli (rd : CReg) (shamt : BitVec 5) (s : State) :
    exec (.cSrli rd shamt) s = s.finishShiftC (primed rd) shamt (s.reg (primed rd) >>> shamt.toNat) := rfl

theorem exec_cSrai (rd : CReg) (shamt : BitVec 5) (s : State) :
    exec (.cSrai rd shamt) s = s.finishShiftC (primed rd) shamt ((s.reg (primed rd)).sshiftRight shamt.toNat) := rfl

theorem exec_cAndi (rd : CReg) (imm : BitVec 6) (s : State) :
    exec (.cAndi rd imm) s = s.finish (primed rd) (s.reg (primed rd) &&& sext imm) 2#32 := rfl

theorem exec_cSlli (rd : Reg) (shamt : BitVec 5) (s : State) :
    exec (.cSlli rd shamt) s = s.finishShiftC rd shamt (s.reg rd <<< shamt.toNat) := rfl

/-! ### Results -/

theorem Answers.of_finish {i : Instr} {s : State} {rd : Reg} {v len : Word} (h : exec i s = s.finish rd v len) :
    Answers i s fun t => RegDone s t rd v (s.pc + len) := ⟨_, h, RegDone.of_finish s rd v len⟩

theorem Answers.of_finishShiftC {i : Instr} {s : State} {rd : Reg} {shamt : BitVec 5} {v : Word} (hs : shamt ≠ 0#5)
    (h : exec i s = s.finishShiftC rd shamt v) : Answers i s fun t => RegDone s t rd v (s.pc + 2#32) :=
  .of_finish (h.trans ((s.finishShiftC_eq rd shamt v).2 hs))

/-! ### The arithmetic of the expansions -/

theorem add_zext {n : Nat} (x : Word) (imm : BitVec n) : x + zext imm = BitVec.ofNat 32 (x.toNat + imm.toNat) := by
  rw [zext, BitVec.ofNat_add, BitVec.ofNat_toNat, BitVec.ofNat_toNat, BitVec.setWidth_eq]

theorem add_sext {n : Nat} (x : Word) (imm : BitVec n) : x + sext imm = BitVec.ofInt 32 (x.toInt + imm.toInt) := by
  rw [BitVec.ofInt_add, BitVec.ofInt_toInt]
  rfl

theorem upperImmC_eq_ofInt (imm : BitVec 6) : upperImmC imm = BitVec.ofInt 32 (imm.toInt * 4096) := by
  rw [upperImmC, BitVec.shiftLeft_eq_mul_twoPow, BitVec.ofInt_mul]
  rfl

theorem ushiftRight_eq_ofNat (x : Word) (n : Nat) : x >>> n = BitVec.ofNat 32 (x.toNat / 2 ^ n) := by
  rw [← Nat.shiftRight_eq_div_pow, ← BitVec.toNat_ushiftRight, BitVec.ofNat_toNat, BitVec.setWidth_eq]

theorem sshiftRight_eq_ofInt (x : Word) (n : Nat) : x.sshiftRight n = BitVec.ofInt 32 (x.toInt / 2 ^ n) := by
  rw [BitVec.sshiftRight_eq, Int.shiftRight_eq_div_pow, Nat.cast_pow, Nat.cast_ofNat]

theorem shiftLeft_eq_ofNat (x : Word) (n : Nat) : x <<< n = BitVec.ofNat 32 (x.toNat * 2 ^ n) := by
  rw [← Nat.shiftLeft_eq]
  rfl

/-- Settles O58: each instruction ends in the shared end of its kind, with its expansion's value. -/
theorem compressedImmediateResults : Obligations.CompressedImmediateResults := by
  intro s rd rdp imm imm10 shamt
  refine ⟨?_, ?_, .of_finish (exec_cLi rd imm s), ?_, ?_, fun hs => ⟨?_, ?_, ?_⟩, fun hs => ⟨?_, ?_, ?_⟩,
    .of_finish (exec_cAndi rdp imm s)⟩
  · rw [← add_zext]
    exact .of_finish (exec_cAddi4spn rdp imm10 s)
  · rw [← add_sext]
    exact .of_finish (exec_cAddi rd imm s)
  · rw [← add_sext]
    exact .of_finish (exec_cAddi16sp imm10 s)
  · rw [← upperImmC_eq_ofInt]
    exact .of_finish (exec_cLui rd imm s)
  · rw [← ushiftRight_eq_ofNat]
    exact .of_finishShiftC hs (exec_cSrli rdp shamt s)
  · rw [← sshiftRight_eq_ofInt]
    exact .of_finishShiftC hs (exec_cSrai rdp shamt s)
  · rw [← shiftLeft_eq_ofNat]
    exact .of_finishShiftC hs (exec_cSlli rd shamt s)
  · exact (exec_cSrli rdp shamt s).trans ((s.finishShiftC_eq _ shamt _).1 hs)
  · exact (exec_cSrai rdp shamt s).trans ((s.finishShiftC_eq _ shamt _).1 hs)
  · exact (exec_cSlli rd shamt s).trans ((s.finishShiftC_eq _ shamt _).1 hs)

end Sys2Proof.Machine
end

section
/-! # Proofs of the family 40_rv32i_integer: the integer instructions (O3, O17 to O20)

Every integer instruction ends in `finish` with a value that the model says in operations on words. Each such operation
has one lemma here that says it in the arithmetic of the statements. -/

namespace Sys2Proof.Machine

open Sys2Proof

/-! ### The instructions -/

theorem exec_lui (rd : Reg) (imm : BitVec 20) (s : State) :
    exec (.lui rd imm) s = s.finish rd (upperImm imm) 4#32 := rfl

theorem exec_auipc (rd : Reg) (imm : BitVec 20) (s : State) :
    exec (.auipc rd imm) s = s.finish rd (s.pc + upperImm imm) 4#32 := rfl

theorem exec_addi (rd rs1 : Reg) (imm : BitVec 12) (s : State) :
    exec (.addi rd rs1 imm) s = s.finish rd (s.reg rs1 + sext imm) 4#32 := rfl

theorem exec_slti (rd rs1 : Reg) (imm : BitVec 12) (s : State) :
    exec (.slti rd rs1 imm) s = s.finish rd (boolWord (ltSigned (s.reg rs1) (sext imm))) 4#32 := rfl

theorem exec_sltiu (rd rs1 : Reg) (imm : BitVec 12) (s : State) :
    exec (.sltiu rd rs1 imm) s = s.finish rd (boolWord (ltUnsigned (s.reg rs1) (sext imm))) 4#32 := rfl

theorem exec_xori (rd rs1 : Reg) (imm : BitVec 12) (s : State) :
    exec (.xori rd rs1 imm) s = s.finish rd (s.reg rs1 ^^^ sext imm) 4#32 := rfl

theorem exec_ori (rd rs1 : Reg) (imm : BitVec 12) (s : State) :
    exec (.ori rd rs1 imm) s = s.finish rd (s.reg rs1 ||| sext imm) 4#32 := rfl

theorem exec_andi (rd rs1 : Reg) (imm : BitVec 12) (s : State) :
    exec (.andi rd rs1 imm) s = s.finish rd (s.reg rs1 &&& sext imm) 4#32 := rfl

theorem exec_slli (rd rs1 : Reg) (shamt : BitVec 5) (s : State) :
    exec (.slli rd rs1 shamt) s = s.finish rd (s.reg rs1 <<< shamt.toNat) 4#32 := rfl

theorem exec_srli (rd rs1 : Reg) (shamt : BitVec 5) (s : State) :
    exec (.srli rd rs1 shamt) s = s.finish rd (s.reg rs1 >>> shamt.toNat) 4#32 := rfl

theorem exec_srai (rd rs1 : Reg) (shamt : BitVec 5) (s : State) :
    exec (.srai rd rs1 shamt) s = s.finish rd ((s.reg rs1).sshiftRight shamt.toNat) 4#32 := rfl

theorem exec_add (rd rs1 rs2 : Reg) (s : State) :
    exec (.add rd rs1 rs2) s = s.finish rd (s.reg rs1 + s.reg rs2) 4#32 := rfl

theorem exec_sub (rd rs1 rs2 : Reg) (s : State) :
    exec (.sub rd rs1 rs2) s = s.finish rd (s.reg rs1 - s.reg rs2) 4#32 := rfl

theorem exec_sll (rd rs1 rs2 : Reg) (s : State) :
    exec (.sll rd rs1 rs2) s = s.finish rd (s.reg rs1 <<< shiftAmount (s.reg rs2)) 4#32 := rfl

theorem exec_slt (rd rs1 rs2 : Reg) (s : State) :
    exec (.slt rd rs1 rs2) s = s.finish rd (boolWord (ltSigned (s.reg rs1) (s.reg rs2))) 4#32 := rfl

theorem exec_sltu (rd rs1 rs2 : Reg) (s : State) :
    exec (.sltu rd rs1 rs2) s = s.finish rd (boolWord (ltUnsigned (s.reg rs1) (s.reg rs2))) 4#32 := rfl

theorem exec_xor (rd rs1 rs2 : Reg) (s : State) :
    exec (.xor rd rs1 rs2) s = s.finish rd (s.reg rs1 ^^^ s.reg rs2) 4#32 := rfl

theorem exec_srl (rd rs1 rs2 : Reg) (s : State) :
    exec (.srl rd rs1 rs2) s = s.finish rd (s.reg rs1 >>> shiftAmount (s.reg rs2)) 4#32 := rfl

theorem exec_sra (rd rs1 rs2 : Reg) (s : State) :
    exec (.sra rd rs1 rs2) s = s.finish rd ((s.reg rs1).sshiftRight (shiftAmount (s.reg rs2))) 4#32 := rfl

theorem exec_or (rd rs1 rs2 : Reg) (s : State) :
    exec (.or rd rs1 rs2) s = s.finish rd (s.reg rs1 ||| s.reg rs2) 4#32 := rfl

theorem exec_and (rd rs1 rs2 : Reg) (s : State) :
    exec (.and rd rs1 rs2) s = s.finish rd (s.reg rs1 &&& s.reg rs2) 4#32 := rfl

/-- The end of an instruction, with its value in other words. -/
theorem Answers.of_finish_eq {i : Instr} {s : State} {rd : Reg} {v w len : Word} (h : exec i s = s.finish rd v len)
    (hvalue : v = w) : Answers i s fun t => RegDone s t rd w (s.pc + len) :=
  .of_finish (hvalue ▸ h)

/-! ### Immediates -/

theorem upperImm_eq_ofNat (imm : BitVec 20) : upperImm imm = BitVec.ofNat 32 (imm.toNat * 4096) := by
  rw [upperImm, put, shiftLeft_eq_ofNat, BitVec.toNat_setWidth_of_le (by decide)]
  rfl

theorem sext_eq_ofInt {n : Nat} (imm : BitVec n) : sext imm = BitVec.ofInt 32 imm.toInt := rfl

theorem toInt_sext {n : Nat} (hn : n ≤ 32) (imm : BitVec n) : (sext imm).toInt = imm.toInt :=
  BitVec.toInt_signExtend_of_le hn

/-! ### Sums, differences and comparisons -/

theorem add_upperImm (x : Word) (imm : BitVec 20) :
    x + upperImm imm = BitVec.ofNat 32 (x.toNat + imm.toNat * 4096) := by
  rw [upperImm_eq_ofNat, BitVec.ofNat_add, BitVec.ofNat_toNat, BitVec.setWidth_eq]

theorem sub_eq_ofInt (x y : Word) : x - y = BitVec.ofInt 32 (x.toInt - y.toInt) := by
  rw [Int.sub_eq_add_neg, BitVec.ofInt_add, BitVec.ofInt_neg, BitVec.ofInt_toInt, BitVec.ofInt_toInt,
    BitVec.sub_eq_add_neg]

theorem boolWord_ltSigned (x y : Word) : boolWord (ltSigned x y) = if x.toInt < y.toInt then 1#32 else 0#32 := by
  simp only [boolWord, ltSigned, decide_eq_true_eq]

theorem boolWord_ltUnsigned (x y : Word) : boolWord (ltUnsigned x y) = if x.toNat < y.toNat then 1#32 else 0#32 := by
  simp only [boolWord, ltUnsigned, decide_eq_true_eq]

/-! ### Shift amounts -/

theorem shiftAmount_eq_mod (v : Word) : shiftAmount v = v.toNat % 32 := by
  rw [shiftAmount, BitVec.toNat_and]
  exact Nat.and_two_pow_sub_one_eq_mod v.toNat 5

/-! ### The statements -/

/-- Settles O3: each printed word is the encoding of the instruction beside it, which is well-formed. -/
theorem printedWordsDecode : Obligations.PrintedWordsDecode := by
  simp only [Obligations.PrintedWordsDecode, decodeParcel_eq_ok_iff]
  decide

/-- Settles O17: the immediate's value is a product. -/
theorem upperImmediateResults : Obligations.UpperImmediateResults := fun s rd imm =>
  ⟨.of_finish_eq (exec_lui rd imm s) (upperImm_eq_ofNat imm),
    .of_finish_eq (exec_auipc rd imm s) (add_upperImm s.pc imm)⟩

/-- Settles O18: the sign-extended immediate has the immediate's signed value. -/
theorem registerImmediateResults : Obligations.RegisterImmediateResults := by
  intro s rd rs1 imm
  have hsigned := boolWord_ltSigned (s.reg rs1) (sext imm)
  rw [toInt_sext (by decide)] at hsigned
  rw [← sext_eq_ofInt imm]
  exact ⟨.of_finish_eq (exec_addi rd rs1 imm s) (add_sext _ imm),
    .of_finish_eq (exec_slti rd rs1 imm s) hsigned,
    .of_finish_eq (exec_sltiu rd rs1 imm s) (boolWord_ltUnsigned _ _),
    .of_finish (exec_xori rd rs1 imm s), .of_finish (exec_ori rd rs1 imm s), .of_finish (exec_andi rd rs1 imm s)⟩

/-- Settles O19: the value is computed from the registers of `s`, so `rd` may be a source. -/
theorem registerRegisterResults : Obligations.RegisterRegisterResults := fun s rd rs1 rs2 =>
  ⟨.of_finish_eq (exec_add rd rs1 rs2 s) (BitVec.add_def _ _),
    .of_finish_eq (exec_sub rd rs1 rs2 s) (sub_eq_ofInt _ _),
    .of_finish_eq (exec_slt rd rs1 rs2 s) (boolWord_ltSigned _ _),
    .of_finish_eq (exec_sltu rd rs1 rs2 s) (boolWord_ltUnsigned _ _),
    .of_finish (exec_xor rd rs1 rs2 s), .of_finish (exec_or rd rs1 rs2 s), .of_finish (exec_and rd rs1 rs2 s)⟩

/-- Settles O20: the shifts by a register are the shifts by its low five bits, its value modulo 32. -/
theorem shiftResults : Obligations.ShiftResults := by
  intro s rd rs1 rs2 shamt
  rw [← shiftAmount_eq_mod (s.reg rs2)]
  exact ⟨.of_finish_eq (exec_slli rd rs1 shamt s) (shiftLeft_eq_ofNat _ _),
    .of_finish_eq (exec_srli rd rs1 shamt s) (ushiftRight_eq_ofNat _ _),
    .of_finish_eq (exec_srai rd rs1 shamt s) (sshiftRight_eq_ofInt _ _),
    .of_finish_eq (exec_sll rd rs1 rs2 s) (shiftLeft_eq_ofNat _ _),
    .of_finish_eq (exec_srl rd rs1 rs2 s) (ushiftRight_eq_ofNat _ _),
    .of_finish_eq (exec_sra rd rs1 rs2 s) (sshiftRight_eq_ofInt _ _)⟩

end Sys2Proof.Machine
end

section
/-! # Proofs of the family 41_rv32i_control: jumps and branches (O24 to O26)

A jump ends in `jumpChecked` and a branch in `branch`. What each of the two does, with an aligned target, with a
misaligned one and when the branch is not taken, is said once; the instructions differ in their target and condition. -/

namespace Sys2Proof.Machine

open Sys2Proof

/-! ### The instructions -/

theorem exec_jal (rd : Reg) (imm : BitVec 21) (s : State) :
    exec (.jal rd imm) s = s.jumpChecked rd (s.pc + sext imm) (s.pc + 4#32) := rfl

theorem exec_jalr (rd rs1 : Reg) (imm : BitVec 12) (s : State) :
    exec (.jalr rd rs1 imm) s = s.jumpChecked rd (s.indirectTarget rs1 (sext imm)) (s.pc + 4#32) := rfl

theorem exec_beq (rs1 rs2 : Reg) (imm : BitVec 13) (s : State) :
    exec (.beq rs1 rs2 imm) s = s.branch (decide (s.reg rs1 = s.reg rs2)) (s.pc + sext imm) := rfl

theorem exec_bne (rs1 rs2 : Reg) (imm : BitVec 13) (s : State) :
    exec (.bne rs1 rs2 imm) s = s.branch (decide (s.reg rs1 ≠ s.reg rs2)) (s.pc + sext imm) := by
  rw [decide_not]
  rfl

theorem exec_blt (rs1 rs2 : Reg) (imm : BitVec 13) (s : State) :
    exec (.blt rs1 rs2 imm) s = s.branch (decide ((s.reg rs1).toInt < (s.reg rs2).toInt)) (s.pc + sext imm) := rfl

theorem exec_bge (rs1 rs2 : Reg) (imm : BitVec 13) (s : State) :
    exec (.bge rs1 rs2 imm) s = s.branch (decide ((s.reg rs2).toInt ≤ (s.reg rs1).toInt)) (s.pc + sext imm) := by
  simp only [← Int.not_lt, decide_not]
  rfl

theorem exec_bltu (rs1 rs2 : Reg) (imm : BitVec 13) (s : State) :
    exec (.bltu rs1 rs2 imm) s = s.branch (decide ((s.reg rs1).toNat < (s.reg rs2).toNat)) (s.pc + sext imm) := rfl

theorem exec_bgeu (rs1 rs2 : Reg) (imm : BitVec 13) (s : State) :
    exec (.bgeu rs1 rs2 imm) s = s.branch (decide ((s.reg rs2).toNat ≤ (s.reg rs1).toNat)) (s.pc + sext imm) := by
  simp only [← Nat.not_lt, decide_not]
  rfl

/-! ### Targets -/

theorem State.misalignedTarget_eq_false_iff {s : State} {target : Word} :
    s.misalignedTarget target = false ↔ s.cfg.rvc = true ∨ target.getLsbD 1 = false := by
  rw [State.misalignedTarget, Bool.and_eq_false_iff, Bool.not_eq_false']

theorem State.misalignedTarget_eq_true_iff {s : State} {target : Word} :
    s.misalignedTarget target = true ↔ s.cfg.rvc = false ∧ target.getLsbD 1 = true := by
  rw [State.misalignedTarget, Bool.and_eq_true, Bool.not_eq_true']

theorem State.indirectTarget_eq_ofInt (s : State) (rs1 : Reg) {n : Nat} (imm : BitVec n) :
    s.indirectTarget rs1 (sext imm) = BitVec.ofInt 32 ((s.reg rs1).toInt + imm.toInt) &&& 0xFFFFFFFE#32 := by
  rw [State.indirectTarget, add_sext]

/-- Clearing bit 0 of the sum leaves bit 1, which R330 looks at. -/
theorem State.getLsbD_one_indirectTarget (s : State) (rs1 : Reg) (imm : Word) :
    (s.indirectTarget rs1 imm).getLsbD 1 = (s.reg rs1 + imm).getLsbD 1 := by
  rw [State.indirectTarget, BitVec.getLsbD_and]
  exact Bool.and_true _

/-! ### The shared ends -/

section
variable {s : State} {target : Word}

theorem State.jumpChecked_of_aligned (rd : Reg) (link : Word) (ha : s.cfg.rvc = true ∨ target.getLsbD 1 = false) :
    s.jumpChecked rd target link = .next ((s.setReg rd link).jumpTo target) := by
  rw [State.jumpChecked, State.misalignedTarget_eq_false_iff.2 ha]
  rfl

theorem State.jumpChecked_of_misaligned (rd : Reg) (link : Word) (hc : s.cfg.rvc = false)
    (hbit : target.getLsbD 1 = true) : s.jumpChecked rd target link = s.raise .instrAddrMisaligned target :=
  if_pos (State.misalignedTarget_eq_true_iff.2 ⟨hc, hbit⟩)

theorem State.branch_not_taken (s : State) (target : Word) : s.branch false target = .next (s.complete 4#32) := rfl

theorem State.branch_taken_of_aligned (ha : s.cfg.rvc = true ∨ target.getLsbD 1 = false) :
    s.branch true target = .next (s.jumpTo target) := by
  rw [State.branch, State.misalignedTarget_eq_false_iff.2 ha]
  rfl

theorem State.branch_taken_of_misaligned (hc : s.cfg.rvc = false) (hbit : target.getLsbD 1 = true) :
    s.branch true target = s.raise .instrAddrMisaligned target :=
  if_pos (State.misalignedTarget_eq_true_iff.2 ⟨hc, hbit⟩)

end

/-! ### Results -/

section
variable {i : Instr} {s : State} {rd : Reg} {target link : Word} {p : Prop} [Decidable p]

theorem Answers.of_jumpChecked (h : exec i s = s.jumpChecked rd target link)
    (ha : s.cfg.rvc = true ∨ target.getLsbD 1 = false) : Answers i s fun t => RegDone s t rd link target :=
  ⟨_, h.trans (State.jumpChecked_of_aligned rd link ha), RegDone.of_jump s rd link target⟩

theorem Traps.of_jumpChecked (h : exec i s = s.jumpChecked rd target link) (hc : s.cfg.rvc = false)
    (hbit : target.getLsbD 1 = true) : Traps i s 0#4 (some target) :=
  Traps.of_raise (e := .instrAddrMisaligned) (h.trans (State.jumpChecked_of_misaligned rd link hc hbit))

/-- The target's alignment matters only where the branch is taken. -/
theorem Answers.of_branch (h : exec i s = s.branch (decide p) target)
    (ha : s.cfg.rvc = true ∨ target.getLsbD 1 = false ∨ ¬p) :
    Answers i s fun t => FlowDone s t (if p then target else s.pc + 4#32) := by
  by_cases hp : p
  · have haligned : s.cfg.rvc = true ∨ target.getLsbD 1 = false := ha.imp_right (·.resolve_right (not_not_intro hp))
    rw [decide_eq_true hp, State.branch_taken_of_aligned haligned] at h
    rw [if_pos hp]
    exact ⟨_, h, FlowDone.of_jumpTo s target⟩
  · rw [decide_eq_false hp, State.branch_not_taken] at h
    rw [if_neg hp]
    exact ⟨_, h, FlowDone.of_complete s 4#32⟩

theorem Traps.of_branch (h : exec i s = s.branch (decide p) target) (hc : s.cfg.rvc = false)
    (hbit : target.getLsbD 1 = true) (hp : p) : Traps i s 0#4 (some target) := by
  rw [decide_eq_true hp, State.branch_taken_of_misaligned hc hbit] at h
  exact Traps.of_raise h

end

/-! ### The statements -/

/-- Settles O24: both jumps end in `jumpChecked`, with the target in words that is the statement's sum. -/
theorem jumpResults : Obligations.JumpResults := by
  intro s rd rs1 off imm target
  rw [← add_sext, ← State.indirectTarget_eq_ofInt]
  exact ⟨fun htarget ha => .of_jumpChecked (htarget ▸ exec_jal rd off s) ha,
    fun htarget ha => .of_jumpChecked (htarget ▸ exec_jalr rd rs1 imm s) ha⟩

/-- Settles O25: the six branches differ in the condition; BNE, BGE and BGEU state theirs by its negation. -/
theorem branchResults : Obligations.BranchResults := by
  intro s rs1 rs2 off target htarget
  rw [← add_sext] at htarget
  subst htarget
  refine ⟨.of_branch (exec_beq rs1 rs2 off s), fun ha => ?bne, .of_branch (exec_blt rs1 rs2 off s), fun ha => ?bge,
    .of_branch (exec_bltu rs1 rs2 off s), fun ha => ?bgeu⟩
  case bne =>
    rw [← ite_not]
    exact .of_branch (exec_bne rs1 rs2 off s) (by rwa [not_not])
  case bge => exact .of_branch (exec_bge rs1 rs2 off s) (by rwa [Int.not_le])
  case bgeu => exact .of_branch (exec_bgeu rs1 rs2 off s) (by rwa [Nat.not_le])

/-- Settles O26: a misaligned target is found by the instruction itself, before anything is written. -/
theorem misalignedTargetRaises : Obligations.MisalignedTargetRaises := by
  intro s rd rs1 rs2 joff imm off hc
  refine ⟨.of_jumpChecked (exec_jal rd joff s) hc, fun hbit => ?jalr, fun hbit => ?branches⟩
  case jalr => exact .of_jumpChecked (exec_jalr rd rs1 imm s) hc ((s.getLsbD_one_indirectTarget rs1 _).trans hbit)
  case branches =>
    exact ⟨.of_branch (exec_beq rs1 rs2 off s) hc hbit, .of_branch (exec_bne rs1 rs2 off s) hc hbit,
      .of_branch (exec_blt rs1 rs2 off s) hc hbit, .of_branch (exec_bge rs1 rs2 off s) hc hbit,
      .of_branch (exec_bltu rs1 rs2 off s) hc hbit, .of_branch (exec_bgeu rs1 rs2 off s) hc hbit⟩

end Sys2Proof.Machine
end

section
/-! # Proofs of the family 43_rv32i_system: ECALL, EBREAK, MRET and WFI (O35, O37, O39)

What a breakpoint event, a trap return and the wait state do is said once, in the words of the statements; EBREAK and
C.EBREAK share the first, and the pending interrupts are the common bits of the two words that MIP and MIE read. -/

namespace Sys2Proof.Machine

open Sys2Proof

/-! ### The instructions -/

theorem exec_ecall (s : State) : exec .ecall s = s.raise .ecallM 0#32 := rfl

theorem exec_cIllegal (s : State) : exec .cIllegal s = s.raise .illegalInstruction 0#32 := rfl

theorem exec_ebreak (s : State) : exec .ebreak s = s.breakpointEvent (Config.freeMtval s.freeIdx) := rfl

theorem exec_cEbreak (s : State) : exec .cEbreak s = s.breakpointEvent (Config.freeMtval s.freeIdx) := rfl

/-- A return address is misaligned exactly where a jump's target is (R330, R372). -/
theorem exec_mret (s : State) :
    exec .mret s = if s.misalignedTarget s.mepc then .refused .mretMisaligned else .next s.trapReturn := rfl

theorem exec_wfi (s : State) : exec .wfi s = .next { s.complete 4#32 with waiting := !s.irqPending } := rfl

/-! ### Breakpoint events (R371, R473) -/

section
variable {s : State} {i : Instr} {info : Word}

theorem State.breakpointEvent_of_raises (h : s.cfg.dbgcEn = false ∨ s.dbgc.dmodeEnbl.brkpt = false) :
    s.breakpointEvent info = s.raise .breakpoint info := by
  rw [State.breakpointEvent, Bool.and_eq_false_iff.2 h]
  rfl

theorem State.breakpointEvent_of_redirected (hdbgc : s.cfg.dbgcEn = true) (hbrkpt : s.dbgc.dmodeEnbl.brkpt = true) :
    s.breakpointEvent info = .next (s.enterDebug .brkpt) :=
  if_pos (Bool.and_eq_true_iff.2 ⟨hdbgc, hbrkpt⟩)

/-- A trap with a stated value is one of those that R523 allows where it allows any. -/
theorem Traps.anyValue {code : BitVec 4} {tval : Option Word} (h : Traps i s code tval) : Traps i s code none :=
  h.mono fun _ ht => { ht with mtval := nofun }

theorem Traps.of_breakpointEvent (hexec : exec i s = s.breakpointEvent info)
    (h : s.cfg.dbgcEn = false ∨ s.dbgc.dmodeEnbl.brkpt = false) : Traps i s 3#4 none :=
  (Traps.of_raise (hexec.trans (State.breakpointEvent_of_raises h))).anyValue

theorem Answers.of_breakpointEvent (hexec : exec i s = s.breakpointEvent info) (hdbgc : s.cfg.dbgcEn = true)
    (hbrkpt : s.dbgc.dmodeEnbl.brkpt = true) :
    Answers i s fun t => DebugEntered s t ∧ t.dbgc.dmodeCause.brkpt = true :=
  ⟨_, hexec.trans (State.breakpointEvent_of_redirected hdbgc hbrkpt), DebugEntered.of_enterDebug s .brkpt, rfl⟩

end

/-! ### Pending interrupts (R45, R510) -/

/-- MIE and MIP have one layout, so their common bits are the interrupts that both have. -/
theorem interruptWord_and (e₁ t₁ w₁ e₂ t₂ w₂ : Bool) :
    interruptWord e₁ t₁ w₁ &&& interruptWord e₂ t₂ w₂ = interruptWord (e₁ && e₂) (t₁ && t₂) (w₁ && w₂) := by
  revert e₁ t₁ w₁ e₂ t₂ w₂
  decide

theorem interruptWord_eq_zero_iff (e t w : Bool) : interruptWord e t w = 0#32 ↔ (e || w || t) = false := by
  revert e t w
  decide

/-- The model's three conditions say what R510 says of the two words as read. -/
theorem State.irqPending_eq_false_iff (s : State) :
    s.irqPending = false ↔ s.readCsr .mip &&& s.readCsr .mie = 0#32 := by
  change _ ↔ s.mipWord &&& s.mieWord = 0#32
  rw [BitVec.and_comm, State.mieWord, State.mipWord, interruptWord_and, interruptWord_eq_zero_iff, State.irqPending]

/-! ### The statements -/

/-- Settles O35: EBREAK and C.EBREAK are one breakpoint event; ECALL and the illegal halfword raise in every state. -/
theorem trapInstructionsTakeTheirExceptions : Obligations.TrapInstructionsTakeTheirExceptions :=
  ⟨fun s => .of_raise (exec_ecall s), fun s => .of_raise (exec_cIllegal s),
    fun s h => ⟨.of_breakpointEvent (exec_ebreak s) h, .of_breakpointEvent (exec_cEbreak s) h⟩,
    fun s hdbgc hbrkpt =>
      ⟨.of_breakpointEvent (exec_ebreak s) hdbgc hbrkpt, .of_breakpointEvent (exec_cEbreak s) hdbgc hbrkpt⟩⟩

/-- Settles O37: the alignment of MEPC alone decides between the trap return and the refusal. -/
theorem mretReturns : Obligations.MretReturns := by
  refine ⟨fun s haligned => ⟨s.trapReturn, ?returns, ?left⟩, fun s hc hbit => ?refused⟩
  case returns =>
    rw [exec_mret, State.misalignedTarget_eq_false_iff.2 haligned]
    rfl
  case left => exact ⟨rfl, rfl, rfl, s.trapReturn_reg, .of_retired rfl, .of_eq rfl rfl rfl, rfl⟩
  case refused =>
    rw [exec_mret, State.misalignedTarget_eq_true_iff.2 ⟨hc, hbit⟩]
    rfl

/-- Settles O39: the wait state is the negation of a pending enabled interrupt, and WFI completes either way. -/
theorem wfiWaitsUnlessPending : Obligations.WfiWaitsUnlessPending := by
  intro s
  have hwaits : (!s.irqPending) = true ↔ s.readCsr .mip &&& s.readCsr .mie = 0#32 := by
    rw [Bool.not_eq_true', s.irqPending_eq_false_iff]
  exact ⟨_, exec_wfi s, hwaits, rfl, fun _ => rfl, .of_retired rfl, .of_eq rfl rfl rfl, rfl⟩

end Sys2Proof.Machine
end

section
/-! # Proofs of the family 44_rv32m: multiplication and division (O21 to O23)

The eight instructions end in `finish` with the words of Machine/MulDiv.lean. A product's halves and a division's
results have one lemma each here that says them in the arithmetic of the statements. R409's identities are proved of
words, and hold of the instructions because each of them writes its word to rd. -/

namespace Sys2Proof.Machine

open Sys2Proof

/-! ### The instructions -/

theorem exec_mul (rd rs1 rs2 : Reg) (s : State) :
    exec (.mul rd rs1 rs2) s = s.finish rd (BitVec.ofNat 32 ((s.reg rs1).toNat * (s.reg rs2).toNat)) 4#32 := rfl

theorem exec_mulh (rd rs1 rs2 : Reg) (s : State) :
    exec (.mulh rd rs1 rs2) s = s.finish rd (highOfProduct ((s.reg rs1).toInt * (s.reg rs2).toInt)) 4#32 := rfl

theorem exec_mulhsu (rd rs1 rs2 : Reg) (s : State) :
    exec (.mulhsu rd rs1 rs2) s =
      s.finish rd (highOfProduct ((s.reg rs1).toInt * ((s.reg rs2).toNat : Int))) 4#32 := rfl

theorem exec_mulhu (rd rs1 rs2 : Reg) (s : State) :
    exec (.mulhu rd rs1 rs2) s =
      s.finish rd (highOfProduct (((s.reg rs1).toNat : Int) * ((s.reg rs2).toNat : Int))) 4#32 := rfl

theorem exec_div (rd rs1 rs2 : Reg) (s : State) :
    exec (.div rd rs1 rs2) s = s.finish rd (divSigned (s.reg rs1) (s.reg rs2)) 4#32 := rfl

theorem exec_divu (rd rs1 rs2 : Reg) (s : State) :
    exec (.divu rd rs1 rs2) s = s.finish rd (divUnsigned (s.reg rs1) (s.reg rs2)) 4#32 := rfl

theorem exec_rem (rd rs1 rs2 : Reg) (s : State) :
    exec (.rem rd rs1 rs2) s = s.finish rd (remSigned (s.reg rs1) (s.reg rs2)) 4#32 := rfl

theorem exec_remu (rd rs1 rs2 : Reg) (s : State) :
    exec (.remu rd rs1 rs2) s = s.finish rd (remUnsigned (s.reg rs1) (s.reg rs2)) 4#32 := rfl

/-! ### Words of products -/

/-- The low word does not depend on the operands' signedness (R401). -/
theorem ofNat_toNat_mul_toNat (x y : Word) :
    BitVec.ofNat 32 (x.toNat * y.toNat) = BitVec.ofInt 32 (x.toInt * y.toInt) := by
  rw [BitVec.ofInt_mul, BitVec.ofInt_toInt, BitVec.ofInt_toInt]
  rfl

theorem highOfProduct_eq_ofInt (p : Int) : highOfProduct p = BitVec.ofInt 32 (p / 2 ^ 32) := by
  have hhigh : (highOfProduct p).toNat = (BitVec.ofInt 64 p).toNat / 2 ^ 32 := highWord_toNat _
  apply BitVec.eq_of_toNat_eq
  rw [hhigh, BitVec.toNat_ofInt, BitVec.toNat_ofInt]
  omega

theorem highOfProduct_natCast (n : Nat) : highOfProduct n = BitVec.ofNat 32 (n / 2 ^ 32) := by
  rw [highOfProduct_eq_ofInt, ← BitVec.ofInt_natCast, Int.natCast_ediv]
  rfl

/-- The two words of a 64-bit signed product. -/
theorem highOfProduct_toInt_add_low {p : Int} (hlo : -2 ^ 63 ≤ p) (hhi : p < 2 ^ 63) :
    (highOfProduct p).toInt * 2 ^ 32 + ((BitVec.ofInt 32 p).toNat : Int) = p := by
  have hhigh : (highOfProduct p).toInt = p / 2 ^ 32 := by
    rw [highOfProduct_eq_ofInt]
    exact BitVec.toInt_ofInt_eq_self (by decide) (by omega) (by omega)
  rw [hhigh, BitVec.toNat_ofInt]
  omega

/-- The two words of a 64-bit unsigned product. -/
theorem highOfProduct_toNat_add_low {n : Nat} (hn : n < 2 ^ 64) :
    (highOfProduct n).toNat * 2 ^ 32 + (BitVec.ofNat 32 n).toNat = n := by
  rw [highOfProduct_natCast, BitVec.toNat_ofNat, BitVec.toNat_ofNat]
  omega

theorem mulh_mul_toInt (x y : Word) :
    (highOfProduct (x.toInt * y.toInt)).toInt * 2 ^ 32 + ((BitVec.ofNat 32 (x.toNat * y.toNat)).toNat : Int) =
      x.toInt * y.toInt := by
  have hlo : -(2 ^ 62) ≤ x.toInt * y.toInt := BitVec.le_toInt_mul_toInt
  have hhi : x.toInt * y.toInt ≤ 2 ^ 62 := BitVec.toInt_mul_toInt_le
  rw [ofNat_toNat_mul_toNat]
  exact highOfProduct_toInt_add_low (by omega) (by omega)

theorem mulhu_mul_toNat (x y : Word) :
    (highOfProduct ((x.toNat : Int) * (y.toNat : Int))).toNat * 2 ^ 32 + (BitVec.ofNat 32 (x.toNat * y.toNat)).toNat =
      x.toNat * y.toNat := by
  rw [← Int.natCast_mul]
  exact highOfProduct_toNat_add_low BitVec.toNat_mul_toNat_lt

/-! ### Results of divisions -/

theorem toInt_eq_zero_iff (x : Word) : x.toInt = 0 ↔ x = 0#32 := BitVec.toInt_inj (y := 0#32)

theorem toNat_eq_zero_iff (x : Word) : x.toNat = 0 ↔ x = 0#32 := BitVec.toNat_inj (y := 0#32)

/-- The one pair of operands whose quotient is no signed word (R405, R407). -/
theorem signedOverflow_iff (x y : Word) :
    x.toInt = -2147483648 ∧ y.toInt = -1 ↔ x = 0x80000000#32 ∧ y = 0xFFFFFFFF#32 :=
  and_congr (BitVec.toInt_inj (y := 0x80000000#32)) (BitVec.toInt_inj (y := 0xFFFFFFFF#32))

theorem divSigned_eq (x y : Word) :
    divSigned x y = if y = 0#32 then 0xFFFFFFFF#32
      else if x = 0x80000000#32 ∧ y = 0xFFFFFFFF#32 then 0x80000000#32
      else BitVec.ofInt 32 (x.toInt.tdiv y.toInt) := by
  simp only [divSigned, toInt_eq_zero_iff, signedOverflow_iff]

theorem remSigned_eq (x y : Word) :
    remSigned x y = if y = 0#32 then x
      else if x = 0x80000000#32 ∧ y = 0xFFFFFFFF#32 then 0#32
      else BitVec.ofInt 32 (x.toInt.tmod y.toInt) := by
  simp only [remSigned, toInt_eq_zero_iff, signedOverflow_iff, Int.tmod_def]

theorem divUnsigned_eq (x y : Word) :
    divUnsigned x y = if y = 0#32 then 0xFFFFFFFF#32 else BitVec.ofNat 32 (x.toNat / y.toNat) := by
  simp only [divUnsigned, toNat_eq_zero_iff]

theorem remUnsigned_eq (x y : Word) :
    remUnsigned x y = if y = 0#32 then x else BitVec.ofNat 32 (x.toNat % y.toNat) := by
  simp only [remUnsigned, toNat_eq_zero_iff]

/-- R409 for DIV and REM. -/
theorem divSigned_mul_add_remSigned (x y : Word) : divSigned x y * y + remSigned x y = x := by
  rw [divSigned_eq, remSigned_eq]
  split_ifs with hzero hoverflow
  · rw [hzero, BitVec.mul_zero, BitVec.zero_add]
  · obtain ⟨rfl, rfl⟩ := hoverflow
    decide
  · calc BitVec.ofInt 32 (x.toInt.tdiv y.toInt) * y + BitVec.ofInt 32 (x.toInt.tmod y.toInt)
        = BitVec.ofInt 32 (x.toInt.tdiv y.toInt * y.toInt + x.toInt.tmod y.toInt) := by
          rw [BitVec.ofInt_add, BitVec.ofInt_mul, BitVec.ofInt_toInt]
      _ = x := by rw [Int.tdiv_mul_add_tmod, BitVec.ofInt_toInt]

/-- R409 for DIVU and REMU. -/
theorem divUnsigned_mul_add_remUnsigned (x y : Word) : divUnsigned x y * y + remUnsigned x y = x := by
  rw [divUnsigned_eq, remUnsigned_eq]
  split_ifs with hzero
  · rw [hzero, BitVec.mul_zero, BitVec.zero_add]
  · calc BitVec.ofNat 32 (x.toNat / y.toNat) * y + BitVec.ofNat 32 (x.toNat % y.toNat)
        = BitVec.ofNat 32 (x.toNat / y.toNat * y.toNat + x.toNat % y.toNat) := by
          rw [BitVec.ofNat_add, BitVec.ofNat_mul, BitVec.ofNat_toNat, BitVec.setWidth_eq]
      _ = x := by rw [Nat.div_add_mod', BitVec.ofNat_toNat, BitVec.setWidth_eq]

/-! ### The destination register -/

/-- The state that an instruction ending in `finish` answers holds the value in its destination. -/
theorem reg_of_exec_finish {i : Instr} {s t : State} {rd : Reg} {v len : Word} (hrd : rd ≠ 0#5)
    (hfinish : exec i s = s.finish rd v len) (hnext : exec i s = .next t) : t.reg rd = v := by
  obtain ⟨u, hu, hdone⟩ := Answers.of_finish hfinish
  have htu : t = u := Host.Outcome.next.inj (hnext.symm.trans hu)
  exact htu ▸ hdone.regs.dest hrd

/-! ### The statements -/

/-- Settles O21: the low word is the same for signed operands, and a high word is the exact product's floor
division by 2^32. -/
theorem multiplyResults : Obligations.MultiplyResults := fun s rd rs1 rs2 =>
  ⟨.of_finish_eq (exec_mul rd rs1 rs2 s) (ofNat_toNat_mul_toNat _ _),
    .of_finish_eq (exec_mulh rd rs1 rs2 s) (highOfProduct_eq_ofInt _),
    .of_finish_eq (exec_mulhsu rd rs1 rs2 s) (highOfProduct_eq_ofInt _),
    .of_finish_eq (exec_mulhu rd rs1 rs2 s) (highOfProduct_natCast _)⟩

/-- Settles O22: the model's conditions on values are the statement's conditions on words. -/
theorem divideResults : Obligations.DivideResults := fun s rd rs1 rs2 =>
  ⟨.of_finish_eq (exec_div rd rs1 rs2 s) (divSigned_eq _ _),
    .of_finish_eq (exec_divu rd rs1 rs2 s) (divUnsigned_eq _ _),
    .of_finish_eq (exec_rem rd rs1 rs2 s) (remSigned_eq _ _),
    .of_finish_eq (exec_remu rd rs1 rs2 s) (remUnsigned_eq _ _)⟩

/-- Settles O23: the seven registers hold the words of which the identities were proved. -/
theorem multiplyDivideIdentities : Obligations.MultiplyDivideIdentities := by
  intro s rs1 rs2 q r qu ru lo hi hu hq hr hqu hru hlo hhi hhu
  have hx5 : (5#5 : Reg) ≠ 0#5 := by decide
  rw [reg_of_exec_finish hx5 (exec_div 5#5 rs1 rs2 s) hq, reg_of_exec_finish hx5 (exec_rem 5#5 rs1 rs2 s) hr,
    reg_of_exec_finish hx5 (exec_divu 5#5 rs1 rs2 s) hqu, reg_of_exec_finish hx5 (exec_remu 5#5 rs1 rs2 s) hru,
    reg_of_exec_finish hx5 (exec_mul 5#5 rs1 rs2 s) hlo, reg_of_exec_finish hx5 (exec_mulh 5#5 rs1 rs2 s) hhi,
    reg_of_exec_finish hx5 (exec_mulhu 5#5 rs1 rs2 s) hhu]
  exact ⟨divSigned_mul_add_remSigned _ _, divUnsigned_mul_add_remUnsigned _ _, mulh_mul_toInt _ _,
    mulhu_mul_toNat _ _⟩

end Sys2Proof.Machine
end

section
/-! # Proofs of the family 45_rvc: the compressed instructions with two registers, the compressed jumps and branches
(O59, O60)

R450: each instruction does what its expansion does, so the results in words are those of the 32-bit families. The
targets of compressed jumps and branches are never checked (R330), so these have ends of their own; what each end leaves
is said once. -/

namespace Sys2Proof.Machine

open Sys2Proof

/-! ### The instructions with two registers -/

theorem exec_cNop (s : State) : exec .cNop s = .next (s.complete 2#32) := rfl

theorem exec_cMv (rd rs2 : Reg) (s : State) : exec (.cMv rd rs2) s = s.finish rd (s.reg rs2) 2#32 := rfl

theorem exec_cAdd (rd rs2 : Reg) (s : State) :
    exec (.cAdd rd rs2) s = s.finish rd (s.reg rd + s.reg rs2) 2#32 := rfl

theorem exec_cSub (rd rs2 : CReg) (s : State) :
    exec (.cSub rd rs2) s = s.finish (primed rd) (s.reg (primed rd) - s.reg (primed rs2)) 2#32 := rfl

theorem exec_cXor (rd rs2 : CReg) (s : State) :
    exec (.cXor rd rs2) s = s.finish (primed rd) (s.reg (primed rd) ^^^ s.reg (primed rs2)) 2#32 := rfl

theorem exec_cOr (rd rs2 : CReg) (s : State) :
    exec (.cOr rd rs2) s = s.finish (primed rd) (s.reg (primed rd) ||| s.reg (primed rs2)) 2#32 := rfl

theorem exec_cAnd (rd rs2 : CReg) (s : State) :
    exec (.cAnd rd rs2) s = s.finish (primed rd) (s.reg (primed rd) &&& s.reg (primed rs2)) 2#32 := rfl

/-! ### The jumps and branches -/

theorem exec_cJ (imm : BitVec 12) (s : State) : exec (.cJ imm) s = .next (s.jumpTo (s.pc + sext imm)) := rfl

theorem exec_cJal (imm : BitVec 12) (s : State) :
    exec (.cJal imm) s = s.jumpLink 1#5 (s.pc + sext imm) (s.pc + 2#32) := rfl

theorem exec_cJr (rs1 : Reg) (s : State) : exec (.cJr rs1) s = .next (s.jumpTo (s.indirectTarget rs1 0#32)) := rfl

theorem exec_cJalr (rs1 : Reg) (s : State) :
    exec (.cJalr rs1) s = s.jumpLink 1#5 (s.indirectTarget rs1 0#32) (s.pc + 2#32) := rfl

theorem exec_cBeqz (rs1 : CReg) (imm : BitVec 9) (s : State) :
    exec (.cBeqz rs1 imm) s = s.branchC (decide (s.reg (primed rs1) = 0#32)) (s.pc + sext imm) := rfl

theorem exec_cBnez (rs1 : CReg) (imm : BitVec 9) (s : State) :
    exec (.cBnez rs1 imm) s = s.branchC (decide (s.reg (primed rs1) ≠ 0#32)) (s.pc + sext imm) := by
  rw [decide_not]
  rfl

/-- With offset 0 the target is the register itself, bit 0 cleared (R331, R442, R445). -/
theorem State.indirectTarget_zero (s : State) (rs1 : Reg) :
    s.indirectTarget rs1 0#32 = s.reg rs1 &&& 0xFFFFFFFE#32 := by
  rw [State.indirectTarget, BitVec.add_zero]

/-! ### Results -/

section
variable {i : Instr} {s : State} {rd : Reg} {target link : Word} {p : Prop} [Decidable p]

theorem Answers.of_jumpTo (h : exec i s = .next (s.jumpTo target)) : Answers i s fun t => FlowDone s t target :=
  ⟨_, h, FlowDone.of_jumpTo s target⟩

theorem Answers.of_complete {len : Word} (h : exec i s = .next (s.complete len)) :
    Answers i s fun t => FlowDone s t (s.pc + len) :=
  .of_jumpTo h

theorem Answers.of_jumpLink (h : exec i s = s.jumpLink rd target link) :
    Answers i s fun t => RegDone s t rd link target :=
  ⟨_, h, RegDone.of_jump s rd link target⟩

/-- A branch not taken is the jump to the next instruction. -/
theorem Answers.of_branchC (h : exec i s = s.branchC (decide p) target) :
    Answers i s fun t => FlowDone s t (if p then target else s.pc + 2#32) := by
  by_cases hp : p
  · rw [decide_eq_true hp] at h
    rw [if_pos hp]
    exact .of_jumpTo h
  · rw [decide_eq_false hp] at h
    rw [if_neg hp]
    exact .of_complete h

end

/-! ### The statements -/

/-- Settles O59: the value is computed from the registers of `s`, as in O19. -/
theorem compressedRegisterResults : Obligations.CompressedRegisterResults := fun s rd rs2 rdp rs2p =>
  ⟨.of_complete (exec_cNop s), .of_finish (exec_cMv rd rs2 s),
    .of_finish_eq (exec_cAdd rd rs2 s) (BitVec.add_def _ _), .of_finish_eq (exec_cSub rdp rs2p s) (sub_eq_ofInt _ _), .of_finish (exec_cXor rdp rs2p s),
    .of_finish (exec_cOr rdp rs2p s), .of_finish (exec_cAnd rdp rs2p s)⟩

/-- Settles O60: the targets in words are the statement's sums, and C.BNEZ states its condition by its negation. -/
theorem compressedControlResults : Obligations.CompressedControlResults := by
  intro s rs1 rs1p off boff
  simp only [← add_sext, ← s.indirectTarget_zero, toNat_eq_zero_iff]
  refine ⟨.of_jumpTo (exec_cJ off s), .of_jumpLink (exec_cJal off s), .of_jumpTo (exec_cJr rs1 s),
    .of_jumpLink (exec_cJalr rs1 s), .of_branchC (exec_cBeqz rs1p boff s), ?bnez⟩
  case bnez =>
    rw [← ite_not]
    exact .of_branchC (exec_cBnez rs1p boff s)

end Sys2Proof.Machine
end

section
/-! # Proofs of the family 60_exceptions: interrupts, trap entry and return, the wait state (O9, O10, O36, O38, O51)

At a boundary the hart's step has four outcomes: nothing in Debug-Mode or in the wait state, an interrupt, or an
instruction. Each is one lemma about `runMode`; the statements say which of them the state selects. -/

namespace Sys2Proof.Machine

open Sys2Proof

/-! ### Trap entry (R520, R521) -/

theorem TrapTaken.of_trapEntry (s : State) (int : Bool) (code : BitVec 4) (epc tval : Word) :
    TrapTaken s (s.trapEntry int code epc tval) int code epc (some tval) :=
  ⟨rfl, ⟨rfl, rfl⟩, fun _ h => Option.some.inj h, rfl, rfl, TargetIs.of_trapTarget s int code, rfl, fun _ => rfl,
    SameMemory.of_eq rfl rfl rfl, rfl⟩

/-- An interrupt is a trap whose value is left open (R510, R523). -/
theorem TrapTaken.of_interrupt (s : State) (i : Interrupt) :
    TrapTaken s (s.interrupt i) true i.code s.pc none :=
  { TrapTaken.of_trapEntry s true i.code s.pc (Config.freeMtval s.freeIdx) with mtval := nofun }

/-! ### Pending interrupts (R503, R504, R510, R511) -/

theorem interruptWord_timer (e t w : Bool) : (interruptWord e t w).getLsbD 7 = t := by
  revert e t w
  decide

theorem interruptWord_software (e t w : Bool) : (interruptWord e t w).getLsbD 3 = w := by
  revert e t w
  decide

theorem State.mtip_iff (s : State) : s.mtip = true ↔ s.timer.mtimecmp.toNat ≤ s.timer.mtime.toNat :=
  decide_eq_true_iff

section
variable {s : State}

theorem State.irqPending_of_external (h : s.mieMeie = true ∧ s.meip = true) :
    s.irqPending = true ∧ s.irqChoice = .external := by
  simp [State.irqPending, State.irqChoice, h]

theorem State.irqPending_of_software (hext : ¬(s.mieMeie = true ∧ s.meip = true))
    (h : s.mieMsie = true ∧ s.msip = true) : s.irqPending = true ∧ s.irqChoice = .software := by
  simp [State.irqPending, State.irqChoice, hext, h]

theorem State.irqPending_of_timer (hext : ¬(s.mieMeie = true ∧ s.meip = true))
    (hsoft : ¬(s.mieMsie = true ∧ s.msip = true)) (h : s.mieMtie = true ∧ s.mtip = true) :
    s.irqPending = true ∧ s.irqChoice = .timer := by
  simp [State.irqPending, State.irqChoice, hext, hsoft, h]

theorem State.takesInterrupt_of_pending (hmie : s.mstatusMie = true) (hirq : s.dbgc.coreCtrl.irqDsbl = false)
    (hlatency : s.cfg.interruptLatencyZero = true) (hpending : s.irqPending = true) : s.takesInterrupt = true := by
  simp [State.takesInterrupt, hmie, hirq, hlatency, hpending]

theorem State.takesInterrupt_of_masked (hmie : s.mstatusMie = false) : s.takesInterrupt = false := by
  simp [State.takesInterrupt, hmie]

theorem State.irqPending_of_takesInterrupt (h : s.takesInterrupt = true) : s.irqPending = true := by
  simp only [State.takesInterrupt, Bool.and_eq_true] at h
  obtain ⟨⟨⟨-, hpending⟩, -⟩, -⟩ := h
  exact hpending

/-! ### The boundary (R515) -/

theorem State.runMode_debug (hd : s.dbgc.dmode = true) : s.runMode = .next s := if_pos hd

theorem State.runMode_waits (hd : s.dbgc.dmode = false) (hw : s.waiting = true) (hp : s.irqPending = false) :
    s.runMode = .next s := by
  simp [State.runMode, hd, hw, hp]

theorem State.runMode_interrupt (hd : s.dbgc.dmode = false) (h : s.takesInterrupt = true) :
    s.runMode = .next (s.interrupt s.irqChoice) := by
  simp [State.runMode, hd, h, State.irqPending_of_takesInterrupt h]

theorem State.runMode_wakes (hd : s.dbgc.dmode = false) (hw : s.waiting = true) (hp : s.irqPending = true)
    (hi : s.takesInterrupt = false) : s.runMode = mapNext ({ s with waiting := false }.instrStep) State.afterInstr := by
  simp [State.runMode, hd, hw, hp, hi, State.wake]

end

/-! ### Trap return (R524) -/

/-- The address that a trap saves of an aligned pc is the pc. -/
theorem AlignedIn.and_even_mask {c : Config} {a : Word} (h : AlignedIn c a) : a &&& 0xFFFFFFFE#32 = a :=
  (and_even_mask_iff a).mpr (alignedIn_iff.mp h).1

/-- MRET does not refuse an aligned MEPC. -/
theorem AlignedIn.returns {c : Config} {a : Word} (h : AlignedIn c a) : c.rvc = true ∨ a.getLsbD 1 = false := by
  cases hc : c.rvc
  · exact .inr ((alignedIn_iff.mp h).2 hc)
  · exact .inl rfl

/-! ### The statements -/

/-- Settles O36: the frame lemma of trap entry is the statement. -/
theorem trapEntrySavesAndMasks : Obligations.TrapEntrySavesAndMasks := TrapTaken.of_trapEntry

/-- Settles O38: MEPC is the aligned pc and MPIE the old MIE, and MRET of O37 brings both back. -/
theorem mretAfterTrapResumes : Obligations.MretAfterTrapResumes := by
  intro s int code tval haligned
  have hmepc : (s.trapEntry int code s.pc tval).mepc = s.pc := AlignedIn.and_even_mask haligned
  refine (mretReturns.1 (s.trapEntry int code s.pc tval) ?_).mono ?_
  · rw [hmepc]
    exact AlignedIn.returns haligned
  · rintro t ⟨hmie, -, hpc, hregs, -, ⟨htcm, hext, hextI⟩, -⟩
    rw [hmepc, AlignedIn.and_even_mask haligned] at hpc
    exact ⟨hpc, hmie, hregs, htcm, hext, hextI⟩

/-- Settles O51: the two bits of the word that MIP reads. -/
theorem timerAndSoftwarePendingBits : Obligations.TimerAndSoftwarePendingBits := by
  intro s
  have htimer : (s.readCsr .mip).getLsbD 7 = s.mtip := interruptWord_timer _ _ _
  exact ⟨by rw [htimer, s.mtip_iff], interruptWord_software _ _ _⟩

/-- Settles O9: the three clauses are the model's choice of the interrupt, which the boundary takes. -/
theorem pendingInterruptIsTaken : Obligations.PendingInterruptIsTaken := by
  intro s code hreset hout hd hmie hirq hlatency hcause
  obtain ⟨hpending, rfl⟩ : s.irqPending = true ∧ s.irqChoice.code = code := by
    rcases hcause with ⟨hen, hp, rfl⟩ | ⟨hext, hen, hp, rfl⟩ | ⟨hext, hsoft, hen, hp, rfl⟩
    · exact (State.irqPending_of_external ⟨hen, hp⟩).imp_right (congrArg Interrupt.code)
    · exact (State.irqPending_of_software hext ⟨hen, hp⟩).imp_right (congrArg Interrupt.code)
    · exact (State.irqPending_of_timer hext hsoft ⟨hen, s.mtip_iff.mpr hp⟩).imp_right (congrArg Interrupt.code)
  have htakes : s.takesInterrupt = true := State.takesInterrupt_of_pending hmie hirq hlatency hpending
  exact ⟨_, (State.hartStep_run hreset hout).trans (State.runMode_interrupt hd htakes), .of_interrupt s s.irqChoice⟩

/-- Settles O10: the wait state ends on MIP & MIE, and a clear MSTATUS.MIE takes no interrupt. -/
theorem waitAndDebugModeExecuteNothing : Obligations.WaitAndDebugModeExecuteNothing := by
  refine ⟨fun s hreset hout hd hw hzero => ?waits, fun s hreset hout hd => ?debug,
    fun s hreset hout hd hw hpending hmie => ?wakes⟩
  all_goals rw [State.hartStep_run hreset hout]
  case waits => exact State.runMode_waits hd hw (s.irqPending_eq_false_iff.mpr hzero)
  case debug => exact State.runMode_debug hd
  case wakes =>
    rw [Ne, ← s.irqPending_eq_false_iff, Bool.not_eq_false] at hpending
    exact State.runMode_wakes hd hw hpending (State.takesInterrupt_of_masked hmie)

end Sys2Proof.Machine
end

section
/-! # Proofs of the family 60_exceptions: breakpoint matches (O52, O53, O54)

The matches are `matchRule` on every breakpoint, and the strongest of their actions is a maximum of ranks. So the check
of an access in `StrongestMatch` is one of three, each ending in the state `afterMatch`. -/

namespace Sys2Proof.Machine

open Sys2Proof

/-! ### One breakpoint (R545, R546) -/

theorem Breakpoint.anyMaskHit_eq_any (b : Breakpoint) (a : Word) (n : Nat) :
    b.anyMaskHit a n = (List.range n).any fun i => b.maskHit (a + BitVec.ofNat 32 i) := by
  induction n with
  | zero => rfl
  | succ n ih =>
    rw [Breakpoint.anyMaskHit, ih, List.range_succ, List.any_append, List.any_cons, List.any_nil, Bool.or_false]

theorem Breakpoint.maskHit_eq_any (b : Breakpoint) (a : Word) :
    b.maskHit a = (List.range 1).any fun i => b.maskHit (a + BitVec.ofNat 32 i) := by
  rw [← b.anyMaskHit_eq_any, Breakpoint.anyMaskHit, Breakpoint.anyMaskHit, Bool.false_or, BitVec.add_zero]

theorem Breakpoint.maskTerm_eq_maskRule (b : Breakpoint) (a : Word) (n : Nat) : b.maskTerm a n = maskRule b a n := by
  unfold Breakpoint.maskTerm maskRule
  cases b.amaskext
  · exact b.maskHit_eq_any a
  · exact b.anyMaskHit_eq_any a n

/-- Without the extended mask only the base address counts, so the size of a fetch is not needed. -/
theorem Breakpoint.execMaskTerm_eq_maskRule {b : Breakpoint} (h : b.amaskext = false) (a : Word) (n : Nat)
    (free : Bool) : b.execMaskTerm a free = maskRule b a n := by
  rw [← b.maskTerm_eq_maskRule, Breakpoint.execMaskTerm, Breakpoint.maskTerm, h]
  exact Bool.or_false _

theorem Breakpoint.hit_data (b : Breakpoint) (k : AccessKind) (a : Word) (n : Nat) (free : Bool) :
    b.hit (bpKindOf k) a n free = matchRule b (bpKindOf k) a n := by
  cases k <;>
    simp [bpKindOf, Breakpoint.hit, Breakpoint.omatch, Breakpoint.amatch, matchRule, b.maskTerm_eq_maskRule,
      Bool.and_comm, BEq.beq]

/-- For a fetch the rule of R546 is stated where the extended mask is off or does not count. -/
theorem Breakpoint.hit_exec {b : Breakpoint} (h : ¬(b.execen = true ∧ b.amasken = true ∧ b.amaskext = true))
    (a : Word) (n : Nat) (free : Bool) : b.hit .exec a n free = matchRule b .exec a n := by
  cases he : b.execen
  · simp [Breakpoint.hit, Breakpoint.omatch, matchRule, he]
  · have hmask : (b.amasken && b.execMaskTerm a free) = (b.amasken && maskRule b a n) := by
      cases hm : b.amasken
      · rfl
      · have hext : b.amaskext = false := by simpa [he, hm] using h
        rw [Breakpoint.execMaskTerm_eq_maskRule hext a n free]
    simp [Breakpoint.hit, Breakpoint.omatch, Breakpoint.amatch, matchRule, he, hmask, BEq.beq]

theorem Breakpoint.mark_matchRule (b : Breakpoint) (k : BpKind) (a : Word) (n : Nat) :
    b.mark (matchRule b k a n) = matchedRule k a n b := by
  simp only [Breakpoint.mark, matchedRule, beq_eq_decide]
  split
  · next h => rw [h, Bool.or_true]
  · next h => rw [Bool.eq_false_iff.mpr h, Bool.or_false]

/-! ### The strongest action (R545) -/

/-- The order of the actions: nothing, exception, Debug-Mode, and the reserved ones above them. -/
def BpAction.rank : BpAction → Nat
  | .nothing => 0
  | .exception => 1
  | .debug => 2
  | .reserved => 3

theorem BpAction.rank_injective : Function.Injective BpAction.rank := by
  rintro (_ | _ | _ | _) (_ | _ | _ | _) h <;> cases h <;> rfl

theorem BpAction.rank_le_three (x : BpAction) : x.rank ≤ 3 := by
  cases x <;> decide

theorem BpAction.rank_stronger (x y : BpAction) : (x.stronger y).rank = max x.rank y.rank := by
  cases x <;> cases y <;> rfl

theorem Breakpoint.rank_act (b : Breakpoint) (hit : Bool) :
    (b.act hit).rank = if hit then min b.action.toNat 3 else 0 := by
  unfold Breakpoint.act
  generalize b.action = action
  revert action hit
  decide

/-- The strongest action is the maximum over the breakpoints. -/
theorem rank_strongest_le_iff (bs : List Breakpoint) (hit : Breakpoint → Bool) (m : Nat) :
    (strongest bs (bs.map hit)).rank ≤ m ↔ ∀ b ∈ bs, (b.act (hit b)).rank ≤ m := by
  induction bs with
  | nil => simp [strongest, BpAction.rank]
  | cons b bs ih =>
    rw [List.map_cons, strongest, BpAction.rank_stronger, max_le_iff, ih, List.forall_mem_cons]

/-! ### All breakpoints -/

theorem hitsFrom_eq_map {k : BpKind} {a : Word} {n : Nat} {p : Breakpoint → Bool} (idx i : Nat) {bs : List Breakpoint}
    (h : ∀ b ∈ bs, ∀ free, b.hit k a n free = p b) : hitsFrom k a n idx i bs = bs.map p := by
  induction bs generalizing i with
  | nil => rfl
  | cons b bs ih =>
    obtain ⟨hb, hbs⟩ := List.forall_mem_cons.mp h
    rw [hitsFrom, hb, ih _ hbs, List.map_cons]

theorem markAll_eq_map (bs : List Breakpoint) (k : BpKind) (a : Word) (n : Nat) :
    markAll bs (bs.map (matchRule · k a n)) = bs.map (matchedRule k a n) := by
  induction bs with
  | nil => rfl
  | cons b bs ih => rw [List.map_cons, markAll, ih, Breakpoint.mark_matchRule, List.map_cons]

/-! ### The check of an access that matches -/

section
variable {s : State} {k : BpKind} {a : Word} {n : Nat} {action : BitVec 3} (h : StrongestMatch s k a n action)
include h

theorem StrongestMatch.bpHits_eq : s.bpHits k a n = s.brkm.bps.map (matchRule · k a n) := by
  refine hitsFrom_eq_map _ _ fun b hb free => ?_
  cases k with
  | exec => exact Breakpoint.hit_exec (h.stated rfl b hb) a n free
  | load => exact b.hit_data .load a n free
  | store => exact b.hit_data .store a n free

theorem StrongestMatch.not_quiet : s.bpQuiet k a n = false := by
  obtain ⟨b, hb, hmatch, -⟩ := h.hit
  have hany : (s.bpHits k a n).any id = true := by
    rw [h.bpHits_eq, List.any_map]
    exact List.any_eq_true.mpr ⟨b, hb, hmatch⟩
  simp [State.bpQuiet, h.present, hany]

theorem StrongestMatch.marked_eq : s.marked (s.bpHits k a n) = afterMatch s k a n := by
  rw [h.bpHits_eq, State.marked, markAll_eq_map]
  rfl

/-- The stated action is an upper bound of the matches' ranks and is reached. -/
theorem StrongestMatch.strongest_eq {x : BpAction} (hx : x.rank = action.toNat) :
    Machine.strongest s.brkm.bps (s.bpHits k a n) = x := by
  have hle3 : action.toNat ≤ 3 := hx ▸ x.rank_le_three
  refine BpAction.rank_injective ?_
  rw [h.bpHits_eq, hx]
  apply Nat.le_antisymm
  · refine (rank_strongest_le_iff _ _ _).mpr fun b hb => ?_
    rw [Breakpoint.rank_act]
    split
    · next hmatch => exact (Nat.min_le_left _ _).trans (h.strongest b hb hmatch)
    · exact Nat.zero_le _
  · obtain ⟨b, hb, hmatch, haction⟩ := h.hit
    have hle := (rank_strongest_le_iff _ (matchRule · k a n) _).mp le_rfl b hb
    rwa [Breakpoint.rank_act, hmatch, if_pos rfl, haction, Nat.min_eq_left hle3] at hle

end

section
variable {s : State} {k : BpKind} {a : Word} {n : Nat}

theorem StrongestMatch.bpReact_raises (h : StrongestMatch s k a n 1#3)
    (hoff : s.cfg.dbgcEn = false ∨ s.dbgc.dmodeEnbl.brkpt = false) :
    s.bpReact (s.bpHits k a n) a = .ended ((afterMatch s k a n).raise .breakpoint a) := by
  have hraise := State.breakpointEvent_of_raises (s := afterMatch s k a n) (info := a) hoff
  rw [State.bpReact, h.strongest_eq (x := .exception) rfl, h.marked_eq, ← hraise]

theorem StrongestMatch.bpReact_enters (h : StrongestMatch s k a n 2#3) :
    s.bpReact (s.bpHits k a n) a = .ended (.next ((afterMatch s k a n).enterDebug .hwBrkpt)) := by
  rw [State.bpReact, h.strongest_eq (x := .debug) rfl, h.marked_eq]

theorem StrongestMatch.bpReact_passes (h : StrongestMatch s k a n 0#3) :
    s.bpReact (s.bpHits k a n) a = .done (afterMatch s k a n) () := by
  rw [State.bpReact, h.strongest_eq (x := .nothing) rfl, h.marked_eq]

end

/-! ### The instruction at the pc -/

section
variable {s : State} {action : BitVec 3}

theorem StrongestMatch.bpCheckExec_eq (h : StrongestMatch s .exec s.pc 1 action)
    (hskip : s.brkm.bpISkip = false ∨ action = 0#3) :
    s.bpCheckExec = s.bpReact (s.bpHits .exec s.pc 1) s.pc := by
  rcases hskip with hskip | rfl
  · simp [State.bpCheckExec, h.not_quiet, hskip]
  · have hnothing := h.strongest_eq (x := .nothing) rfl
    simp [State.bpCheckExec, h.not_quiet, hnothing]

theorem State.instrStep_of_ended {r : Result} (h : s.bpCheckExec = .ended r) : s.instrStep = r := by
  rw [State.instrStep, h]

theorem State.instrStep_of_done {t : State} (h : s.bpCheckExec = .done t ()) : s.instrStep = t.fetchAndRun := by
  rw [State.instrStep, h]

end

/-! ### Loads and stores -/

theorem StrongestMatch.bpCheckData_eq {s : State} {k : AccessKind} {a : Word} {n : Nat} {action : BitVec 3}
    (h : StrongestMatch s (bpKindOf k) a n action) :
    s.bpCheckData k a n = s.bpReact (s.bpHits (bpKindOf k) a n) a := by
  rw [State.bpCheckData, h.not_quiet]
  rfl

section
variable {s : State} {i : Instr} {f : LoadShape} (hf : loadShape s i = some f)
include hf

theorem exec_load_of_ended {r : Result} (h : s.bpCheckData .load f.addr f.size = .ended r) : exec i s = r := by
  rw [exec_loadShape hf, State.load, State.memRead, h]

theorem exec_load_ext_of_done {t : State} (h : s.bpCheckData .load f.addr f.size = .done t ())
    (hgoes : GoesToExt t.cfg .load f.addr f.size) :
    exec i s = t.finish f.rd (extended f.ext f.size (leNat (t.byte .ext) f.addr.toNat f.size)) f.len := by
  rw [exec_loadShape hf, State.load, State.memRead, h, ← loadShape_value hf]
  simp only [dataPlace_ext hgoes]

end

section
variable {s : State} {i : Instr} {f : StoreShape} (hf : storeShape s i = some f)
include hf

theorem exec_store_of_ended {r : Result} (h : s.bpCheckData .store f.addr f.size = .ended r) : exec i s = r := by
  rw [exec_storeShape hf, State.store, State.memWrite, h]

theorem exec_store_ext_of_done {t : State} (h : s.bpCheckData .store f.addr f.size = .done t ())
    (hgoes : GoesToExt t.cfg .store f.addr f.size) :
    exec i s = .next ((t.storeExt f.addr.toNat f.size f.value).complete f.len) := by
  rw [exec_storeShape hf, State.store, State.memWrite, h]
  simp only [dataPlace_ext hgoes]

end

/-! ### The statements -/

/-- Settles O52: the check ends all three accesses with the exception. -/
theorem breakpointMatchRaises : Obligations.BreakpointMatchRaises := by
  refine fun s hoff => ⟨fun h hskip => ⟨_, ?exec, .of_raise (afterMatch s .exec s.pc 1) .breakpoint s.pc⟩,
    fun i f hf h => ⟨_, ?load, .of_raise (afterMatch s .load f.addr f.size) .breakpoint f.addr⟩,
    fun i f hf h => ⟨_, ?store, .of_raise (afterMatch s .store f.addr f.size) .breakpoint f.addr⟩⟩
  case exec => exact State.instrStep_of_ended ((h.bpCheckExec_eq (.inl hskip)).trans (h.bpReact_raises hoff))
  case load => exact exec_load_of_ended hf (h.bpCheckData_eq.trans (h.bpReact_raises hoff))
  case store => exact exec_store_of_ended hf (h.bpCheckData_eq.trans (h.bpReact_raises hoff))

/-- Settles O53: the check ends all three accesses in Debug-Mode. -/
theorem breakpointMatchEntersDebugMode : Obligations.BreakpointMatchEntersDebugMode := by
  refine fun s => ⟨fun h hskip => ⟨_, ?exec, .of_enterDebug (afterMatch s .exec s.pc 1) .hwBrkpt, rfl⟩,
    fun i f hf h => ⟨_, ?load, .of_enterDebug (afterMatch s .load f.addr f.size) .hwBrkpt, rfl⟩,
    fun i f hf h => ⟨_, ?store, .of_enterDebug (afterMatch s .store f.addr f.size) .hwBrkpt, rfl⟩⟩
  case exec => exact State.instrStep_of_ended ((h.bpCheckExec_eq (.inl hskip)).trans h.bpReact_enters)
  case load => exact exec_load_of_ended hf (h.bpCheckData_eq.trans h.bpReact_enters)
  case store => exact exec_store_of_ended hf (h.bpCheckData_eq.trans h.bpReact_enters)

/-- Settles O54: the check lets the access through, and what follows starts from the marked state. -/
theorem dryRunMatchOnlySetsMatched : Obligations.DryRunMatchOnlySetsMatched := by
  refine fun s => ⟨fun h => ?exec, fun i f hf h hgoes => ?load, fun i f hf h hgoes => ?store⟩
  case exec => exact State.instrStep_of_done ((h.bpCheckExec_eq (.inr rfl)).trans h.bpReact_passes)
  case load =>
    have hexec := exec_load_ext_of_done hf (h.bpCheckData_eq.trans h.bpReact_passes) hgoes
    exact ⟨_, hexec, .of_finish (afterMatch s .load f.addr f.size) f.rd _ f.len⟩
  case store =>
    have hexec := exec_store_ext_of_done hf (h.bpCheckData_eq.trans h.bpReact_passes) hgoes
    exact ⟨_, hexec, .of_storeLE s.ext f.addr.toNat f.size f.value, fun _ => rfl, rfl, .of_retired rfl, rfl⟩

end Sys2Proof.Machine
end
